-- ==== Sys2Proof/Word.lean ====
section
/-! DEFINITION. The words and numbers of the NX48: bytes of the control ports, audio samples, and the numbers that
name endpoints (00_scope.md, Numbering of sources and destinations). -/

namespace Sys2Proof

/-- One byte of a request, reply or notice (09_frame_formats_and_device_summary.md, R166). -/
abbrev Byte := BitVec 8

/-- An audio sample, a signed 24-bit integer (00_scope.md, Units and number conventions). -/
abbrev Sample := BitVec 24

/-- Control ports C0 to C3. -/
abbrev Port := Fin 4

/-- Destinations 0 to 47. -/
abbrev Dest := Fin 48

/-- Sources 0 to 39. -/
abbrev Source := Fin 40

/-- Talker sources 0 to 31 (R9). -/
abbrev Talker := Fin 32

/-- Programme inputs G0 to G7, sources 32 to 39; the bed sources (R9). -/
abbrev Programme := Fin 8

/-- Earpieces E0 to E15. -/
abbrev Earpiece := Fin 16

/-- Field lines F0 to F7. -/
abbrev Line := Fin 8

/-- Groups 0 to 7 (R112). -/
abbrev Group := Fin 8

/-- Profiles 0 to 7 (R127). -/
abbrev ProfileIx := Fin 8

/-- A level code, 0 to 127 (00_scope.md, Level code). -/
abbrev Level := Fin 128

/-- A contact reading: K2 in bit 2, K1 in bit 1, K0 in bit 0 (R166). -/
abbrev Contacts := BitVec 3

/-- A byte holding the low eight bits of a number. -/
def byte (n : Nat) : Byte := BitVec.ofNat 8 n

/-- A switch as the part writes it: 1 on, 0 off (R166). -/
def switchByte (b : Bool) : Byte := if b then 1 else 0

/-- Two bytes, most significant first (R166). -/
def bytes2 (n : Nat) : List Byte := [byte (n / 256), byte n]

/-- Three bytes, most significant first (R166). -/
def bytes3 (n : Nat) : List Byte := [byte (n / 65536), byte (n / 256), byte n]

end Sys2Proof
end

