-- ==== Sys2Proof/Syntax.lean ====
section
/-! DEFINITION. The commands of the NX48: one constructor for each row of spec/opcode_table.json, with the row's operands.
`p` is the control port. A request carries its parameter bytes as the controller sends them (09, section 9.3); a two-byte
parameter is one 16-bit operand, sent most significant byte first (R166). -/

namespace Sys2Proof

/-- A command: one whole and indivisible step of the part (95_what_each_step_holds.md). -/
inductive Instr where
  /-- TRANSACTION_BEGIN (R1): SEL falls on port `p`. -/
  | transactionBegin (p : Port)
  /-- FRAMING (R3): SEL rises on inbound bytes that fail the framing or parameter-count test. -/
  | framing (p : Port)
  /-- UNKNOWN (R5): SEL rises on a well-formed frame whose code is not known. -/
  | unknown (p : Port)
  /-- NOP (R11). -/
  | nop (p : Port)
  /-- QUERY_PART (R12). -/
  | queryPart (p : Port)
  /-- FETCH_NOTICES(max) (R18). -/
  | fetchNotices (p : Port) (max : Byte)
  /-- CLAIM_AUTHORITY (R35). -/
  | claimAuthority (p : Port)
  /-- RELEASE_AUTHORITY (R36). -/
  | releaseAuthority (p : Port)
  /-- SEIZE_AUTHORITY (R37). -/
  | seizeAuthority (p : Port)
  /-- SET_SEIZE_RIGHT(port, switch) (R38). -/
  | setSeizeRight (p : Port) (port switch : Byte)
  /-- SET_WINDOW(port, window, enabled, base, mask, priority, listen-only, tag) (R31). -/
  | setWindow (p : Port) (port window enabled base mask priority listenOnly tag : Byte)
  /-- READ_WINDOW(port, window) (R32). -/
  | readWindow (p : Port) (port window : Byte)
  /-- ROUTE_ADD(dest, source, level code, mode) (R46). -/
  | routeAdd (p : Port) (dest source level mode : Byte)
  /-- ROUTE_LEVEL(dest, source, level code) (R51). -/
  | routeLevel (p : Port) (dest source level : Byte)
  /-- ROUTE_REMOVE(dest, source) (R52). -/
  | routeRemove (p : Port) (dest source : Byte)
  /-- ROUTE_CLEAR(dest, tag filter) (R53). -/
  | routeClear (p : Port) (dest filter : Byte)
  /-- READ_ROUTES(dest) (R58). -/
  | readRoutes (p : Port) (dest : Byte)
  /-- SET_DEST(dest, master level code, fade code) (R56). -/
  | setDest (p : Port) (dest master fade : Byte)
  /-- SET_TRIM(source, trim code) (R62). -/
  | setTrim (p : Port) (source trim : Byte)
  /-- READ_LEVELS(first dest, count) (R85). -/
  | readLevels (p : Port) (first count : Byte)
  /-- TALK_REQUEST(earpiece, talker source) (R94). -/
  | talkRequest (p : Port) (earpiece talker : Byte)
  /-- TALK_RELEASE(earpiece) (R104). -/
  | talkRelease (p : Port) (earpiece : Byte)
  /-- SET_FOLDBACK(earpiece, bed source, nominal, duck, interrupt, lead, hold, limit) (R108). -/
  | setFoldback (p : Port) (earpiece bed nominal duck interrupt lead hold limit : Byte)
  /-- READ_FOLDBACK(earpiece) (R110). -/
  | readFoldback (p : Port) (earpiece : Byte)
  /-- TALK_GROUP(group, talker source) (R113). -/
  | talkGroup (p : Port) (group talker : Byte)
  /-- RELEASE_GROUP(group) (R114). -/
  | releaseGroup (p : Port) (group : Byte)
  /-- SET_GROUP(group, member set) (R112). -/
  | setGroup (p : Port) (group : Byte) (members : BitVec 16)
  /-- IDENTIFY(earpiece) (R124). -/
  | identify (p : Port) (earpiece : Byte)
  /-- READ_ACCESSORY(earpiece) (R125). -/
  | readAccessory (p : Port) (earpiece : Byte)
  /-- SET_PROFILE(index, valid, match ID, ceiling code, ear mode) (R128). -/
  | setProfile (p : Port) (index valid : Byte) (matchId : BitVec 16) (ceiling ear : Byte)
  /-- FIELD_START(line) (R135). -/
  | fieldStart (p : Port) (line : Byte)
  /-- FIELD_STOP(line) (R136). -/
  | fieldStop (p : Port) (line : Byte)
  /-- FIELD_PARK(line) (R137). -/
  | fieldPark (p : Port) (line : Byte)
  /-- READ_FIELD(line) (R152). -/
  | readField (p : Port) (line : Byte)
  /-- SET_FIELD_PLAN(line, depth code, quiet code, auto-wake, acquire limit) (R151). -/
  | setFieldPlan (p : Port) (line depth quiet autoWake acquire : Byte)
  /-- SELECT_REFERENCE(choice) (R159). -/
  | selectReference (p : Port) (choice : Byte)
  /-- READ_REFERENCE (R165). -/
  | readReference (p : Port)
  /-- PRST_ASSERT (R19): PRST of port `p` is asserted. -/
  | prstAssert (p : Port)
  /-- PRST_RELEASE (R19). -/
  | prstRelease (p : Port)
  /-- CHIP_RESET (R21): NRESET is asserted, or power comes on. -/
  | chipReset
  /-- NRESET_RELEASE (R21). -/
  | nresetRelease
  /-- MIX_FRAME_EVENT (R73): one house frame, with the samples received on the 24 panel microphone lanes and on the 8
  programme input lanes for this frame (R74). -/
  | mixFrameEvent (mics programmes : List Sample)
  /-- LEAD_EXPIRY (R100) on earpiece `e`. -/
  | leadExpiry (e : Earpiece)
  /-- LIMIT_EXPIRY (R105). -/
  | limitExpiry (e : Earpiece)
  /-- HOLD_EXPIRY (R102). -/
  | holdExpiry (e : Earpiece)
  /-- SETTLE_TIMER_EXPIRY (R120). -/
  | settleTimerExpiry (e : Earpiece)
  /-- CONTACT_READING_CHANGE (R123): the connector of `e` now answers `b0` to `b3` under the biases B0 to B3. -/
  | contactReadingChange (e : Earpiece) (b0 b1 b2 b3 : Contacts)
  /-- DEBOUNCE_EXPIRY (R123). -/
  | debounceExpiry (e : Earpiece)
  /-- RECEIVER_LOCK (R139) on line `k`. -/
  | receiverLock (k : Line)
  /-- RECEIVER_LOCK_LOSS (R142). -/
  | receiverLockLoss (k : Line)
  /-- STALL_EXPIRY (R142). -/
  | stallExpiry (k : Line)
  /-- ACQUIRE_EXPIRY (R140). -/
  | acquireExpiry (k : Line)
  /-- RETRY_EXPIRY (R143). -/
  | retryExpiry (k : Line)
  /-- FIELD_CALL (R144): the onset of a call is detected. -/
  | fieldCall (k : Line)
  /-- FIELD_WRITE (R146): the receiver writes the sample `x`. -/
  | fieldWrite (k : Line) (x : Sample)
  /-- FIELD_READ (R146): the reader takes its read of a house frame. -/
  | fieldRead (k : Line)
  /-- ACTIVE_REFERENCE_SAMPLE (R150): on the active reference line the write of `x` and the frame's read are one event. -/
  | activeReferenceSample (k : Line) (x : Sample)
  /-- HOUSE_PRESENCE (R156). -/
  | housePresence
  /-- HOUSE_ABSENCE (R156). -/
  | houseAbsence
  /-- HOUSE_SETTLE_EXPIRY (R156). -/
  | houseSettleExpiry
  /-- FIELD_SETTLE_EXPIRY (R157). -/
  | fieldSettleExpiry
  /-- SWITCH_DEADLINE_EXPIRY (R161). -/
  | switchDeadlineExpiry
  /-- CLOCK_PERIOD (R1): one period of port `p`'s clock, with the bit `sdi` on its data input. -/
  | clockPeriod (p : Port) (sdi : Bool)
  deriving DecidableEq, Repr

end Sys2Proof
end

