-- ==== Sys2Proof/WellFormed.lean ====
section
/-! DEFINITION. Which commands are well formed. Numbers that name a port, an earpiece or a line are bounded by their types;
a request's parameter bytes may hold anything (R9 and R10 say what the part makes of them). What is left to check is that
a frame event brings one sample for each input lane (R74; 09, section 9.6: 24 panel lanes and 8 programme lanes in). -/

namespace Sys2Proof

/-- A command is well formed when a frame event brings 24 microphone samples and 8 programme samples. -/
def Instr.wellFormed : Instr → Bool
  | .mixFrameEvent mics programmes => decide (mics.length = 24) && decide (programmes.length = 8)
  | _ => true

end Sys2Proof
end

