-- ==== Sys2Proof/Decode.lean ====
section
/-! DEFINITION. Reading a request frame (R3, R4, R5 and 09, section 9.3), writing one, and the host's table decoder. No row of
spec/opcode_table.json gives bits, so no table word spells a command. -/

namespace Sys2Proof

/-- The command that a table word spells: none, since the table gives no row any bits (log entry 19). -/
def decodeTableWord (_nbits _w : Nat) : Option Instr := none

/-- The framing reasons (R3, R4), in the order of 09, section 9.4. -/
inductive FramingReason where
  | bitsLeft | short | length | count | params
  deriving DecidableEq, Repr

/-- Codes of the framing reasons: PARTIAL 1, SHORT 2, LENGTH 3, COUNT 4, PARAMS 5 (09, section 9.4). -/
def FramingReason.code : FramingReason → Byte
  | .bitsLeft => 1
  | .short => 2
  | .length => 3
  | .count => 4
  | .params => 5

/-- The number of parameter bytes each request code uses; none for a code the part does not know (09, section 9.3). -/
def paramCount (code : Byte) : Option Nat :=
  match code.toNat with
  | 0x00 => some 0
  | 0x01 => some 0
  | 0x02 => some 1
  | 0x10 => some 0
  | 0x11 => some 0
  | 0x12 => some 0
  | 0x13 => some 2
  | 0x14 => some 8
  | 0x15 => some 2
  | 0x20 => some 4
  | 0x21 => some 3
  | 0x22 => some 2
  | 0x23 => some 2
  | 0x24 => some 1
  | 0x25 => some 3
  | 0x26 => some 2
  | 0x27 => some 2
  | 0x30 => some 2
  | 0x31 => some 1
  | 0x32 => some 8
  | 0x33 => some 1
  | 0x34 => some 2
  | 0x35 => some 1
  | 0x36 => some 3
  | 0x40 => some 1
  | 0x41 => some 1
  | 0x42 => some 6
  | 0x50 => some 1
  | 0x51 => some 1
  | 0x52 => some 1
  | 0x53 => some 1
  | 0x54 => some 5
  | 0x60 => some 1
  | 0x61 => some 0
  | _ => none

/-- What a SEL rise makes of the inbound bytes. -/
inductive FrameVerdict where
  /-- answered FRAMING with a reason (R3, R4 step 4) -/
  | malformed (tag : Byte) (reason : FramingReason)
  /-- answered UNKNOWN with the code as received (R5) -/
  | unknownCode (tag code : Byte)
  /-- a request of a known code with at least the parameters it uses (R4 steps 5 and 6) -/
  | request (tag code : Byte) (params : List Byte)
  deriving DecidableEq, Repr

/-- The largest parameter length (R3). -/
def maxParams : Nat := 60

/-- The test of R3, in its order, then the code (R5), then the parameter count (R4). `bits` are the bits clocked in after
the last whole byte. -/
def classify (bytes : List Byte) (bits : List Bool) : FrameVerdict :=
  if bits ≠ [] then .malformed (bytes.headD 0) .bitsLeft
  else match bytes with
    | tag :: code :: len :: params =>
      if maxParams < len.toNat then .malformed tag .length
      else if params.length ≠ len.toNat then .malformed tag .count
      else match paramCount code with
        | none => .unknownCode tag code
        | some n => if params.length < n then .malformed tag .params else .request tag code params
    | _ => .malformed (bytes.headD 0) .short

/-- The two bytes of a 16-bit parameter, most significant first (R166). -/
def wide (x : BitVec 16) : List Byte := bytes2 x.toNat

/-- The request code and parameter bytes of a request command; none for a command that is no request (09, section 9.3). -/
def requestOf : Instr → Option (Byte × List Byte)
  | .nop _ => some (0x00, [])
  | .queryPart _ => some (0x01, [])
  | .fetchNotices _ max => some (0x02, [max])
  | .claimAuthority _ => some (0x10, [])
  | .releaseAuthority _ => some (0x11, [])
  | .seizeAuthority _ => some (0x12, [])
  | .setSeizeRight _ port switch => some (0x13, [port, switch])
  | .setWindow _ port window enabled base mask priority listenOnly tag =>
    some (0x14, [port, window, enabled, base, mask, priority, listenOnly, tag])
  | .readWindow _ port window => some (0x15, [port, window])
  | .routeAdd _ dest source level mode => some (0x20, [dest, source, level, mode])
  | .routeLevel _ dest source level => some (0x21, [dest, source, level])
  | .routeRemove _ dest source => some (0x22, [dest, source])
  | .routeClear _ dest filter => some (0x23, [dest, filter])
  | .readRoutes _ dest => some (0x24, [dest])
  | .setDest _ dest master fade => some (0x25, [dest, master, fade])
  | .setTrim _ source trim => some (0x26, [source, trim])
  | .readLevels _ first count => some (0x27, [first, count])
  | .talkRequest _ earpiece talker => some (0x30, [earpiece, talker])
  | .talkRelease _ earpiece => some (0x31, [earpiece])
  | .setFoldback _ earpiece bed nominal duck interrupt lead hold limit =>
    some (0x32, [earpiece, bed, nominal, duck, interrupt, lead, hold, limit])
  | .readFoldback _ earpiece => some (0x33, [earpiece])
  | .talkGroup _ group talker => some (0x34, [group, talker])
  | .releaseGroup _ group => some (0x35, [group])
  | .setGroup _ group members => some (0x36, group :: wide members)
  | .identify _ earpiece => some (0x40, [earpiece])
  | .readAccessory _ earpiece => some (0x41, [earpiece])
  | .setProfile _ index valid matchId ceiling ear => some (0x42, [index, valid] ++ wide matchId ++ [ceiling, ear])
  | .fieldStart _ line => some (0x50, [line])
  | .fieldStop _ line => some (0x51, [line])
  | .fieldPark _ line => some (0x52, [line])
  | .readField _ line => some (0x53, [line])
  | .setFieldPlan _ line depth quiet autoWake acquire => some (0x54, [line, depth, quiet, autoWake, acquire])
  | .selectReference _ choice => some (0x60, [choice])
  | .readReference _ => some (0x61, [])
  | .transactionBegin _ => none
  | .framing _ => none
  | .unknown _ => none
  | .prstAssert _ => none
  | .prstRelease _ => none
  | .chipReset => none
  | .nresetRelease => none
  | .mixFrameEvent _ _ => none
  | .leadExpiry _ => none
  | .limitExpiry _ => none
  | .holdExpiry _ => none
  | .settleTimerExpiry _ => none
  | .contactReadingChange _ _ _ _ _ => none
  | .debounceExpiry _ => none
  | .receiverLock _ => none
  | .receiverLockLoss _ => none
  | .stallExpiry _ => none
  | .acquireExpiry _ => none
  | .retryExpiry _ => none
  | .fieldCall _ => none
  | .fieldWrite _ _ => none
  | .fieldRead _ => none
  | .activeReferenceSample _ _ => none
  | .housePresence => none
  | .houseAbsence => none
  | .houseSettleExpiry => none
  | .fieldSettleExpiry => none
  | .switchDeadlineExpiry => none
  | .clockPeriod _ _ => none

/-- The request frame of a request command, with its tag and any filler parameters (R3, R4). -/
def encodeFrame (tag : Byte) (i : Instr) (filler : List Byte) : Option (List Byte) :=
  match requestOf i with
  | some (code, params) => some (tag :: code :: byte (params.length + filler.length) :: (params ++ filler))
  | none => none

/-- The request tag, where the inbound bytes spell the request command `i`: they are a well-formed frame of its code whose
first parameters are its own; parameters beyond those are ignored (R4). -/
def spells (bytes : List Byte) (bits : List Bool) (i : Instr) : Option Byte :=
  match classify bytes bits, requestOf i with
  | .request tag code params, some (c, ps) => if code = c ∧ params.take ps.length = ps then some tag else none
  | _, _ => none

end Sys2Proof
end

