-- ==== Sys2Proof/Config.lean ====
section
/-! DEFINITION. What the part fixes once: its identity, the sizes of its stores, the lengths of its timers in frames; and
the two values the manual leaves free. -/

namespace Sys2Proof.Config

/-- Frames in a millisecond of the house frame (00_scope.md, Frames). -/
def framesPerMs : Nat := 48

/-- Records a port's notice queue holds (R15). -/
def queueCapacity : Nat := 16

/-- Entries of the pool (R44). -/
def poolSize : Nat := 384

/-- Entries a listen list holds (R42). -/
def listCapacity : Nat := 12

/-- Records an earpiece's waiting queue holds (R93). -/
def waitingCapacity : Nat := 2

/-- Samples of the store the eight elastic buffers share (R151). -/
def depthBudget : Nat := 8192

/-- Samples the replay store keeps (R146). -/
def replayCapacity : Nat := 64

/-- Length of the quiet run at which a line is quiet (R148). -/
def quietRunFull : Nat := 480

/-- Where the slip counts stop (R149). -/
def slipCountMax : Nat := 65535

/-- Unity gain (00_scope.md, Gain word). -/
def unity : Nat := 65536

/-- Frames of the ramps of fixed length: trims, duck-in, slot opening and closing, gate opening (R71). -/
def shortRamp : Nat := 48

/-- A probe's settle timer, 2 ms (R119). -/
def settleFrames : Nat := 96

/-- The debounce timer, 20 ms (R123). -/
def debounceFrames : Nat := 960

/-- The stall timer, 2 ms (R139). -/
def stallFrames : Nat := 96

/-- The retry timer, 500 ms (R142). -/
def retryFrames : Nat := 24000

/-- The settle timers of the house reference and of the tracked line, 100 ms (R156, R157). -/
def stabilityFrames : Nat := 4800

/-- The switch deadline, 2 s (R160). -/
def deadlineFrames : Nat := 96000

/-- Frames in a second (00_scope.md, Frames). -/
def framesPerSecond : Nat := 48000

/-- FREE VALUE (DESIGN CHOICE, log entry 6). The raw sample of a LOCKED field line in a frame event for which its reader has
delivered none: R134 gives the sample "that the line's reader delivers in that house frame" and says nothing of this case.
The argument counts the frame events that met it. -/
opaque undelivered : Nat → Sample

/-- FREE VALUE (DESIGN CHOICE, log entry 8). What the sense contacts read while no bias is driven: R118 says of UNKNOWN "Not
driven" and no rule gives a reading then; no request can meet that state. -/
opaque undrivenContacts : Contacts

end Sys2Proof.Config
end

