-- ==== Sys2Proof/Machine/State.lean ====
section
/-! DEFINITION. The whole state of the NX48, unit by unit as the block diagram of 00_scope.md names them, the reasons a
step could stop, and the state after reset. Plain data throughout. -/

namespace Sys2Proof.Machine

/-- Faults: none. The spec describes no event at which the part stops; a request that may not run is answered with a
refusal outcome (R7), which is a next state. Nothing raises one (safe). -/
inductive Fault where
  deriving DecidableEq, Repr

/-- Refusals of the model. -/
inductive Refusal where
  /-- Raised by exec's arm of a command that has no meaning yet. No arm raises it in this model (safe). -/
  | notModelled (mnemonic : String)
  deriving DecidableEq, Repr

/-! ### Control ports (01) -/

/-- The outcomes of R7. -/
inductive ReplyCode where
  | none | ok | accepted | queued | denied | protectedEntry | noAuthority | held | busy | full | absent | self | range | state
  | unknown | framing
  deriving DecidableEq, Repr

/-- The answer to a request: its outcome and its result parameters (R6). -/
structure Answer where
  outcome : ReplyCode
  results : List Byte := []
  deriving DecidableEq, Repr

/-- A reply frame as the reply slot holds it: the flags of its status byte are built when it is frozen (R6). -/
structure Reply where
  tag : Byte
  outcome : ReplyCode
  results : List Byte
  deriving DecidableEq, Repr

/-- The notice kinds of R13. -/
inductive NoticeKind where
  | talkGranted | talkPreempted | talkEnded | accessory | fieldState | fieldCall | reference | authorityLost | clip
  deriving DecidableEq, Repr

/-- A notice record: kind, subject and four detail bytes; details a kind does not use are 0 (R13). -/
structure Notice where
  kind : NoticeKind
  subject : Byte
  d0 : Byte := 0
  d1 : Byte := 0
  d2 : Byte := 0
  d3 : Byte := 0
  deriving DecidableEq, Repr

/-- A transaction in progress (R1): the whole bytes received, oldest first, the bits of the incomplete byte, oldest first,
and the frozen outbound frame (R2). -/
structure Transaction where
  bytes : List Byte
  bits : List Bool
  frame : List Byte
  deriving DecidableEq, Repr

/-- One control port (section 1.1). `txn` is none while IDLE. `sdo` is the bit driven on the data output, none while it is
released. ATN is not stored: it is asserted exactly while the queue is not empty (R16). -/
structure PortRec where
  txn : Option Transaction
  sdo : Option Bool
  slot : Option Reply
  queue : List Notice
  overrun : Bool
  held : Bool
  deriving DecidableEq, Repr

/-! ### Access windows and configuration authority (02) -/

/-- An access window (R23). -/
structure Window where
  enabled : Bool
  base : BitVec 6
  mask : BitVec 6
  priority : BitVec 2
  listenOnly : Bool
  tag : BitVec 2
  deriving DecidableEq, Repr

/-- The access and authority unit (R23, R33). -/
structure AccessUnit where
  windows : Vector (Vector Window 2) 4
  seize : Vector Bool 4
  holder : Option Port
  deriving DecidableEq, Repr

/-! ### Gain words in motion (04) -/

/-- A gain word: where it stands, its target, and its ramp step (R68, R69). -/
structure Ramp where
  cur : Nat
  target : Nat
  step : Nat
  deriving DecidableEq, Repr

/-! ### The route store (03) -/

/-- Entry mode (R43). -/
inductive EntryMode where
  | latched | momentary
  deriving DecidableEq, Repr

/-- Entry state (R43). -/
inductive EntryState where
  | active | fadingOut
  deriving DecidableEq, Repr

/-- A listen entry (R43). -/
structure Entry where
  source : Source
  level : Level
  ramp : Ramp
  mode : EntryMode
  creator : Port
  priority : BitVec 2
  tag : BitVec 2
  state : EntryState
  deriving DecidableEq, Repr

/-- The route store's part of a destination record (R40); class and own source follow from the number (R41). -/
structure DestRec where
  master : Level
  fade : BitVec 2
  list : List Entry
  deriving DecidableEq, Repr

/-- The route store: destination records, the pool's free count (R44), the trim records (R61). -/
structure RouteStore where
  dests : Vector DestRec 48
  free : Nat
  trims : Vector Ramp 40
  deriving DecidableEq, Repr

/-! ### The mix engine (04) -/

/-- A destination's meter (R83). -/
structure Meter where
  peak : Nat
  clip : Bool
  deriving DecidableEq, Repr

/-- The mix engine: meters, output gates (R82), the outputs of the last frame (R73). `unread` counts the frame events in which
a LOCKED line had no delivered sample; it is the model's own field, the argument of the free value of log entry 6. -/
structure MixEngine where
  meters : Vector Meter 48
  gates : Vector Ramp 16
  panelOut : Vector Int 24
  earOut : Vector (Int × Int) 16
  unread : Nat
  deriving DecidableEq, Repr

/-! ### The foldback controller (05) -/

/-- States of a foldback record (R89). -/
inductive FoldbackState where
  | idle | lead | talk | hold
  deriving DecidableEq, Repr

/-- A talk record (R92). `origin` is none for SINGLE. `arrival` numbers the records in the order their requests were
taken (log entry 13). -/
structure TalkRec where
  port : Port
  talker : Talker
  priority : BitVec 2
  tag : BitVec 2
  origin : Option Group
  arrival : Nat
  deriving DecidableEq, Repr

/-- The foldback record of an earpiece (R87). Timers hold the frames that remain, none when not running; the state timer is
the lead timer in LEAD and the hold timer in HOLD. `bed` and `slot` hold the gain words with their targets. -/
structure Foldback where
  bedSource : Option Programme
  nominal : Level
  duck : Level
  interrupt : Level
  lead : Fin 21
  hold : Byte
  limit : Byte
  state : FoldbackState
  holder : Option TalkRec
  queue : List TalkRec
  stateTimer : Option Nat
  limitTimer : Option Nat
  bed : Ramp
  slotSource : Option Talker
  slot : Ramp
  deriving DecidableEq, Repr

/-- The foldback controller: records, the group table (R112; bit e of a group is earpiece e), the next arrival number. -/
structure FoldbackUnit where
  recs : Vector Foldback 16
  groups : Vector (BitVec 16) 8
  arrivals : Nat
  deriving DecidableEq, Repr

/-! ### The identification unit (06) -/

/-- States of an accessory record (R118). -/
inductive AccessoryState where
  | unknown | probing | present | absent
  deriving DecidableEq, Repr

/-- The accessory record of an earpiece (R117). `bias` is none while no bias is driven; `readings` are the steps read by the
probe in progress, oldest first; `sense` is what the connector's contacts answer under B0 to B3 (log entry 8). -/
structure Accessory where
  state : AccessoryState
  id : BitVec 12
  rest : Contacts
  profile : ProfileIx
  bias : Option (Fin 4)
  readings : List Contacts
  settle : Option Nat
  debounce : Option Nat
  sense : Vector Contacts 4
  deriving DecidableEq, Repr

/-- Ear modes (R78). -/
inductive EarMode where
  | mono | split | leftOnly | rightOnly
  deriving DecidableEq, Repr

/-- A profile (R127). -/
structure Profile where
  valid : Bool
  matchId : BitVec 12
  ceiling : Level
  ear : EarMode
  deriving DecidableEq, Repr

/-- The identification unit. -/
structure IdentUnit where
  accs : Vector Accessory 16
  profiles : Vector Profile 8
  deriving DecidableEq, Repr

/-! ### The field line unit (07) -/

/-- Line states (R133). -/
inductive LineState where
  | idle | acquiring | centering | locked | lost | parked
  deriving DecidableEq, Repr

/-- Causes of a line's change of state (R153). -/
inductive LineCause where
  | none | start | stop | park | lock | noLock | centred | lockLoss | stall | retry | wake
  deriving DecidableEq, Repr

/-- A line record (R131). The fill is the buffer's length. `buffer` stands oldest first, `replay` newest last. The line timer
is the acquire, retry or stall timer by the state (R133). `delivered` is the sample the reader has delivered for the frame
to come (R134); `link` is what the outgoing link carries, none for the idle pattern. -/
structure LineRec where
  state : LineState
  depth : BitVec 2
  quiet : Level
  autoWake : Bool
  acquire : Nat
  buffer : List Sample
  replay : List Sample
  quietRun : Nat
  quietSlips : Nat
  forcedSlips : Nat
  lastCause : LineCause
  timer : Option Nat
  delivered : Option Sample
  link : Option Int
  deriving DecidableEq, Repr

/-- The field line unit. -/
structure FieldUnit where
  lines : Vector LineRec 8
  deriving DecidableEq, Repr

/-! ### The reference unit (08) -/

/-- Reference sources (R155). -/
inductive RefSource where
  | house | crystal | field (k : Line)
  deriving DecidableEq, Repr

/-- States of the reference record (R158). -/
inductive RefState where
  | steady | switching | holdover
  deriving DecidableEq, Repr

/-- Stabilities (R156, R157). -/
inductive Stability where
  | absent | settling | stable
  deriving DecidableEq, Repr

/-- Causes of a REFERENCE notice (R164). -/
inductive RefCause where
  | selected | pending | switched | timeout | lost | restored
  deriving DecidableEq, Repr

/-- The reference record (R158), with the stabilities and their settle timers, and the house input pin. -/
structure RefUnit where
  selected : RefSource
  active : RefSource
  state : RefState
  tracked : Option Line
  deadline : Option Nat
  house : Stability
  houseSettle : Option Nat
  field : Stability
  fieldSettle : Option Nat
  houseInput : Bool
  deriving DecidableEq, Repr

/-! ### The whole part -/

/-- The state of the NX48 and the queue of the commands that wait, first in first out. `nresetLow` says that NRESET is
asserted. -/
structure State where
  nresetLow : Bool
  ports : Vector PortRec 4
  access : AccessUnit
  route : RouteStore
  mix : MixEngine
  foldback : FoldbackUnit
  ident : IdentUnit
  field : FieldUnit
  reference : RefUnit
  pending : List Instr
  deriving DecidableEq, Repr

/-! ### After chip reset -/

/-- A port after chip reset; the hold follows the PRST pin, released here (R21, section 1.1). -/
def PortRec.reset : PortRec :=
  { txn := none, sdo := none, slot := none, queue := [], overrun := false, held := false }

/-- A window after chip reset: every field zero (R23). -/
def Window.reset : Window :=
  { enabled := false, base := 0, mask := 0, priority := 0, listenOnly := false, tag := 0 }

/-- Authority free, windows zero, seize rights off (R23, R33). -/
def AccessUnit.reset : AccessUnit :=
  { windows := Vector.replicate 4 (Vector.replicate 2 Window.reset), seize := Vector.replicate 4 false, holder := none }

/-- A gain word at rest at its target; the spec gives a resting ramp no step: 0, DESIGN CHOICE (log entry 12). -/
def Ramp.rest (g : Nat) : Ramp := { cur := g, target := g, step := 0 }

/-- Master 0, fade code 2, an empty list (R40). -/
def DestRec.reset : DestRec := { master := 0, fade := 2, list := [] }

/-- The route store after chip reset (R40, R44, R61). -/
def RouteStore.reset : RouteStore :=
  { dests := Vector.replicate 48 DestRec.reset, free := Config.poolSize,
    trims := Vector.replicate 40 (Ramp.rest Config.unity) }

/-- Meters and gates at 0 (R68, R83); the outputs 0 (earpieces by R82; panel lanes DESIGN CHOICE, log entry 12). -/
def MixEngine.reset : MixEngine :=
  { meters := Vector.replicate 48 { peak := 0, clip := false }, gates := Vector.replicate 16 (Ramp.rest 0),
    panelOut := Vector.replicate 24 0, earOut := Vector.replicate 16 (0, 0), unread := 0 }

/-- The foldback record after chip reset (R87). -/
def Foldback.reset : Foldback :=
  { bedSource := none, nominal := 0, duck := 20, interrupt := 0, lead := 10, hold := 50, limit := 0, state := .idle,
    holder := none, queue := [], stateTimer := none, limitTimer := none, bed := Ramp.rest 0, slotSource := none,
    slot := Ramp.rest 0 }

/-- The foldback controller after chip reset (R87, R112). -/
def FoldbackUnit.reset : FoldbackUnit :=
  { recs := Vector.replicate 16 Foldback.reset, groups := Vector.replicate 8 0, arrivals := 0 }

/-- The accessory record while NRESET is asserted: UNKNOWN, no bias driven (R117, R118). The sense contacts are the
connector's. -/
def Accessory.reset (sense : Vector Contacts 4) : Accessory :=
  { state := .unknown, id := 0xFFF, rest := 7, profile := 0, bias := none, readings := [], settle := none, debounce := none,
    sense := sense }

/-- The accessory record once NRESET is released: the reset probe has driven B0 and started its settle timer (R117, R119). -/
def Accessory.resetProbe (sense : Vector Contacts 4) : Accessory :=
  { Accessory.reset sense with state := .probing, bias := some 0, settle := some Config.settleFrames }

/-- A connector with nothing plugged: every contact reads 1 under every bias (06, opening). -/
def unplugged : Vector Contacts 4 := Vector.replicate 4 7

/-- Profile 0 valid, the others not; ceiling code 12, MONO, match ID 0 (R127). -/
def Profile.reset (i : ProfileIx) : Profile :=
  { valid := decide (i = 0), matchId := 0, ceiling := 12, ear := .mono }

/-- The profile table after chip reset (R127). -/
def profilesReset : Vector Profile 8 := Vector.ofFn Profile.reset

/-- A line record after chip reset (R131). -/
def LineRec.reset : LineRec :=
  { state := .idle, depth := 2, quiet := 100, autoWake := false, acquire := 10, buffer := [], replay := [], quietRun := 0,
    quietSlips := 0, forcedSlips := 0, lastCause := .none, timer := none, delivered := none, link := none }

/-- The field line unit after chip reset (R131). -/
def FieldUnit.reset : FieldUnit := { lines := Vector.replicate 8 LineRec.reset }

/-- The reference record after chip reset, while the house stability is ABSENT (R156, R157, R158). -/
def RefUnit.reset (houseInput : Bool) : RefUnit :=
  { selected := .house, active := .crystal, state := .holdover, tracked := none, deadline := none, house := .absent,
    houseSettle := none, field := .absent, fieldSettle := none, houseInput := houseInput }

/-- The machine right after reset: chip reset has been made and NRESET released, so the reset probes run (R21, R119). The
pins stand as log entry 1 says: every PRST released, no house reference, nothing plugged. No command waits. -/
def State.reset : State :=
  { nresetLow := false, ports := Vector.replicate 4 PortRec.reset, access := AccessUnit.reset, route := RouteStore.reset,
    mix := MixEngine.reset, foldback := FoldbackUnit.reset,
    ident := { accs := Vector.replicate 16 (Accessory.resetProbe unplugged), profiles := profilesReset },
    field := FieldUnit.reset, reference := RefUnit.reset false, pending := [] }

end Sys2Proof.Machine
end

