-- ==== Sys2Proof/Machine/Flags.lean ====
section
/-! DEFINITION. Numeric codes (09, section 9.4), the status byte with its flags (R167), the ATN output (R16), and the byte
layouts of notices, talk records and replies (09, sections 9.2 and 9.5). -/

namespace Sys2Proof.Machine

/-- Outcome codes (09, section 9.4). -/
def ReplyCode.code : ReplyCode → Nat
  | .none => 0
  | .ok => 1
  | .accepted => 2
  | .queued => 3
  | .denied => 4
  | .protectedEntry => 5
  | .noAuthority => 6
  | .held => 7
  | .busy => 8
  | .full => 9
  | .absent => 10
  | .self => 11
  | .range => 12
  | .state => 13
  | .unknown => 14
  | .framing => 15

/-- Notice kind codes (09, section 9.2). -/
def NoticeKind.code : NoticeKind → Byte
  | .talkGranted => 1
  | .talkPreempted => 2
  | .talkEnded => 3
  | .accessory => 4
  | .fieldState => 5
  | .fieldCall => 6
  | .reference => 7
  | .authorityLost => 8
  | .clip => 9

/-- The six bytes of a notice record (09, section 9.2). -/
def Notice.bytes (n : Notice) : List Byte := [n.kind.code, n.subject, n.d0, n.d1, n.d2, n.d3]

/-- Reference source codes: HOUSE 0x00, CRYSTAL 0x01, FIELD(k) 0x10 plus k. -/
def RefSource.code : RefSource → Byte
  | .house => 0x00
  | .crystal => 0x01
  | .field k => byte (0x10 + k.val)

/-- Reference state codes. -/
def RefState.code : RefState → Byte
  | .steady => 0
  | .switching => 1
  | .holdover => 2

/-- Stability codes. -/
def Stability.code : Stability → Byte
  | .absent => 0
  | .settling => 1
  | .stable => 2

/-- Reference cause codes. -/
def RefCause.code : RefCause → Byte
  | .selected => 1
  | .pending => 2
  | .switched => 3
  | .timeout => 4
  | .lost => 5
  | .restored => 6

/-- Line state codes. -/
def LineState.code : LineState → Byte
  | .idle => 0
  | .acquiring => 1
  | .centering => 2
  | .locked => 3
  | .lost => 4
  | .parked => 5

/-- Line cause codes. -/
def LineCause.code : LineCause → Byte
  | .none => 0
  | .start => 1
  | .stop => 2
  | .park => 3
  | .lock => 4
  | .noLock => 5
  | .centred => 6
  | .lockLoss => 7
  | .stall => 8
  | .retry => 9
  | .wake => 10

/-- Foldback state codes. -/
def FoldbackState.code : FoldbackState → Byte
  | .idle => 0
  | .lead => 1
  | .talk => 2
  | .hold => 3

/-- Accessory state codes. -/
def AccessoryState.code : AccessoryState → Byte
  | .unknown => 0
  | .probing => 1
  | .present => 2
  | .absent => 3

/-- Ear mode codes. -/
def EarMode.code : EarMode → Byte
  | .mono => 0
  | .split => 1
  | .leftOnly => 2
  | .rightOnly => 3

/-- Entry mode codes: LATCHED 0, MOMENTARY 1. -/
def EntryMode.code : EntryMode → Nat
  | .latched => 0
  | .momentary => 1

/-- Entry state codes: ACTIVE 0, FADING_OUT 1. -/
def EntryState.code : EntryState → Nat
  | .active => 0
  | .fadingOut => 1

/-- The absence marker (R166). -/
def absentByte : Byte := 0xFF

/-- Denial reasons: NO_WINDOW 1, LISTEN_ONLY 2, NO_SEIZE_RIGHT 3. -/
def denyNoWindow : Byte := 1
def denyListenOnly : Byte := 2
def denyNoSeizeRight : Byte := 3

/-- FULL reasons: LIST 1, POOL 2, QUEUE 3, DEPTH 4. -/
def fullList : Byte := 1
def fullPool : Byte := 2
def fullQueue : Byte := 3
def fullDepth : Byte := 4

/-- ROUTE_ADD actions: NEW 1, REVIVED 2. -/
def actionNew : Byte := 1
def actionRevived : Byte := 2

/-- Talk results LEAD 1 and TALK 2; release results, and the STATE results of talk, HOLDER 1 and WAITING 2. -/
def resultLead : Byte := 1
def resultTalk : Byte := 2
def resultHolder : Byte := 1
def resultWaiting : Byte := 2

/-- The STATE result REFERENCE (R136). -/
def resultReference : Byte := 0x80

/-- TALK_ENDED reasons: LIMIT 1, DISPLACED 2. -/
def reasonLimit : Byte := 1
def reasonDisplaced : Byte := 2

/-- PENDING: the port's notice queue is not empty (R2). -/
def PortRec.pendingFlag (r : PortRec) : Bool := !r.queue.isEmpty

/-- ATN is asserted exactly while the notice queue is not empty (R16). -/
def PortRec.atn (r : PortRec) : Bool := !r.queue.isEmpty

/-- AUTHORITY: this port is the configuration authority holder (R2). -/
def AccessUnit.authorityFlag (a : AccessUnit) (p : Port) : Bool := decide (a.holder = some p)

/-- The status byte: PENDING in bit 7, OVERRUN in bit 6, AUTHORITY in bit 5, the outcome code in bits 4 to 0 (R167). -/
def statusByte (pending overrun authority : Bool) (outcome : ReplyCode) : Byte :=
  byte (128 * pending.toNat + 64 * overrun.toNat + 32 * authority.toNat + outcome.code)

/-- The outbound frame frozen at the fall of SEL (R2): the reply in the slot with its status byte rebuilt, or a NONE reply
with tag 0 and no results. -/
def PortRec.freeze (r : PortRec) (authority : Bool) : List Byte :=
  match r.slot with
  | some a =>
    a.tag :: statusByte r.pendingFlag r.overrun authority a.outcome :: byte a.results.length :: a.results
  | none => [0, statusByte r.pendingFlag r.overrun authority .none, 0]

/-- A talk record's four bytes: port, talker source, priority and tag packed, origin (09, section 9.5). -/
def TalkRec.bytes (t : TalkRec) : List Byte :=
  [byte t.port.val, byte t.talker.val, byte (4 * t.priority.toNat + t.tag.toNat),
    match t.origin with
    | none => absentByte
    | some g => byte g.val]

/-- The holder position of a READ_FOLDBACK reply: 0xFF and three zeros when there is no holder (09, section 9.5). -/
def holderBytes : Option TalkRec → List Byte
  | some t => t.bytes
  | none => [absentByte, 0, 0, 0]

/-- A listen entry's three bytes in a READ_ROUTES reply: source, level code, and state, mode, creator, priority and tag packed
(09, section 9.5). -/
def Entry.bytes (x : Entry) : List Byte :=
  [byte x.source.val, byte x.level.val,
    byte (128 * x.state.code + 64 * x.mode.code + 16 * x.creator.val + 4 * x.priority.toNat + x.tag.toNat)]

/-- The remaining time of a timer in milliseconds, rounded up, 0 when it is not running. -/
def msLeft (t : Option Nat) : Nat := (t.getD 0 + 47) / 48

/-- The remaining time of a timer in seconds, rounded up, 0 when it is not running. -/
def secondsLeft (t : Option Nat) : Nat := (t.getD 0 + 47999) / 48000

/-- An optional number as a byte, 0xFF for none (R166). -/
def optByte : Option Nat → Byte
  | some n => byte n
  | none => absentByte

end Sys2Proof.Machine
end

