-- ==== Sys2Proof/Machine/Gain.lean ====
section
/-! DEFINITION. The gain law, scaling, saturation and ramps (04_mix_arithmetic.md, sections 4.1 to 4.3). -/

namespace Sys2Proof.Machine

/-- G for the level codes 0 to 127: 65,536 times 10 to the power -a/40 rounded to the nearest integer, and 0 for code 127
(R64; Table 4-1 prints the even codes). -/
def gainTable : List Nat :=
  [65536, 61870, 58409, 55142, 52057, 49145, 46396, 43801, 41350, 39037,
   36854, 34792, 32846, 31008, 29274, 27636, 26090, 24631, 23253, 21952,
   20724, 19565, 18471, 17437, 16462, 15541, 14672, 13851, 13076, 12345,
   11654, 11002, 10387, 9806, 9257, 8739, 8250, 7789, 7353, 6942,
   6554, 6187, 5841, 5514, 5206, 4915, 4640, 4380, 4135, 3904,
   3685, 3479, 3285, 3101, 2927, 2764, 2609, 2463, 2325, 2195,
   2072, 1957, 1847, 1744, 1646, 1554, 1467, 1385, 1308, 1234,
   1165, 1100, 1039, 981, 926, 874, 825, 779, 735, 694,
   655, 619, 584, 551, 521, 491, 464, 438, 414, 390,
   369, 348, 328, 310, 293, 276, 261, 246, 233, 220,
   207, 196, 185, 174, 165, 155, 147, 139, 131, 123,
   117, 110, 104, 98, 93, 87, 83, 78, 74, 69,
   66, 62, 58, 55, 52, 49, 46, 0]

/-- The trim gain table: G(-t) for the trim codes +1 to +24 as R65 prints it. The part holds the table: its last value is the
printed 260,899, where the law of R64 would give 260,904. -/
def trimTable : List Nat :=
  [69419, 73533, 77890, 82505, 87394, 92572, 98057, 103868, 110022, 116541,
   123447, 130762, 138510, 146717, 155410, 164619, 174373, 184706, 195650, 207243,
   219523, 232531, 246309, 260899]

/-- The gain word of a level code (R64). -/
def gain (a : Level) : Nat := gainTable.getD a.val 0

/-- The gain word of a trim code t, G(-t) (R61, R65). -/
def trimGain (t : Int) : Nat :=
  if 0 < t then trimTable.getD (t.toNat - 1) 0 else gainTable.getD (-t).toNat 0

/-- Scaling: x times M plus 32,768, divided by 65,536 and rounded down (R66). -/
def scale (x : Int) (m : Nat) : Int := (x * m + 32768) / 65536

/-- Saturation to a range (R67). -/
def saturate (lo hi x : Int) : Int := if x < lo then lo else if hi < x then hi else x

/-- The ends of the 24-bit sample range (00_scope.md, Samples). -/
def sampleMin : Int := -8388608
def sampleMax : Int := 8388607

/-- Saturation to the 24-bit sample range (R67). -/
def saturate24 (x : Int) : Int := saturate sampleMin sampleMax x

/-- A quotient rounded up. -/
def ceilDiv (a b : Nat) : Nat := (a + b - 1) / b

/-- Setting a target T over F frames, from the current value or from 0 (R69). A length of 0 makes the current value the target
in the same event; otherwise the step is the distance divided by F, rounded up, and at least 1. -/
def Ramp.aim (r : Ramp) (target frames : Nat) (fromZero : Bool := false) : Ramp :=
  let start := if fromZero then 0 else r.cur
  if frames = 0 then { cur := target, target := target, step := 0 }
  else { cur := start, target := target, step := max 1 (ceilDiv (max start target - min start target) frames) }

/-- One frame's motion toward the target, by at most the remaining distance (R70). -/
def Ramp.advance (r : Ramp) : Ramp :=
  if r.cur < r.target then { r with cur := min (r.cur + r.step) r.target }
  else { r with cur := max (r.cur - r.step) r.target }

/-- Ramp length in frames of a fade code: 0, 48, 240 or 480 (R40). -/
def fadeFrames (c : BitVec 2) : Nat :=
  match c.toNat with
  | 0 => 0
  | 1 => 48
  | 2 => 240
  | _ => 480

end Sys2Proof.Machine
end

