-- ==== Sys2Proof/Machine/Operands.lean ====
section
/-! DEFINITION. Parameter bytes read: numbers that name something against their class (R9), quantities brought into their
range (R10), enumerated choices and absence markers (R166). -/

namespace Sys2Proof.Machine

/-- A byte that names something, when it lies in its class (R9). -/
def inClass (n : Nat) (b : Byte) : Option (Fin n) := if h : b.toNat < n then some ⟨b.toNat, h⟩ else none

/-- A level code clamped to 0 to 127 (R10). -/
def clampLevel (b : Byte) : Level := if h : b.toNat < 128 then ⟨b.toNat, h⟩ else 127

/-- A trim code, a signed byte clamped to -24 to 24 (R10, R166). -/
def clampTrim (b : Byte) : Int := max (-24) (min 24 b.toInt)

/-- A lead time clamped to 0 to 20 ms (R10). -/
def clampLead (b : Byte) : Fin 21 := if h : b.toNat < 21 then ⟨b.toNat, h⟩ else 20

/-- An acquire limit clamped to 1 to 60 s (R10). -/
def clampAcquire (b : Byte) : Nat := max 1 (min 60 b.toNat)

/-- The FETCH_NOTICES maximum clamped to 1 to 10 (R10). -/
def clampFetch (b : Byte) : Nat := max 1 (min 10 b.toNat)

/-- The READ_LEVELS count clamped to 1 to 14 (R10). -/
def clampCount (b : Byte) : Nat := max 1 (min 14 b.toNat)

/-- The low two bits of a byte: fade code, depth code, window priority and tag (R10). -/
def maskTwo (b : Byte) : BitVec 2 := b.setWidth 2

/-- The low six bits of a byte: window base and mask (R10). -/
def maskSix (b : Byte) : BitVec 6 := b.setWidth 6

/-- The low twelve bits of an accessory match ID (R10). -/
def maskTwelve (x : BitVec 16) : BitVec 12 := x.setWidth 12

/-- A switch is on when its byte is not zero (R9, R166). -/
def isOn (b : Byte) : Bool := decide (b ≠ 0)

/-- A bed source: 32 to 39, or NONE as 0xFF (R9, R166). -/
def readBed (b : Byte) : Option (Option Programme) :=
  if b = 0xFF then some none
  else if h : 32 ≤ b.toNat ∧ b.toNat < 40 then some (some ⟨b.toNat - 32, by omega⟩) else none

/-- A tag filter: 0 to 3, or ANY as 0xFF (R9, R166). -/
def readFilter (b : Byte) : Option (Option (BitVec 2)) :=
  if b = 0xFF then some none else if b.toNat < 4 then some (some (b.setWidth 2)) else none

/-- An entry mode: LATCHED 0, MOMENTARY 1 (R9). -/
def readMode (b : Byte) : Option EntryMode :=
  match b.toNat with
  | 0 => some .latched
  | 1 => some .momentary
  | _ => none

/-- An ear mode: MONO 0, SPLIT 1, LEFT_ONLY 2, RIGHT_ONLY 3 (R9). -/
def readEar (b : Byte) : Option EarMode :=
  match b.toNat with
  | 0 => some .mono
  | 1 => some .split
  | 2 => some .leftOnly
  | 3 => some .rightOnly
  | _ => none

/-- A reference choice: HOUSE 0x00, CRYSTAL 0x01, FIELD(k) 0x10 plus k with k from 0 to 7 (R9, R166). -/
def readChoice (b : Byte) : Option RefSource :=
  if b = 0x00 then some .house
  else if b = 0x01 then some .crystal
  else if h : 0x10 ≤ b.toNat ∧ b.toNat < 0x18 then some (.field ⟨b.toNat - 0x10, by omega⟩) else none

/-- The destination of a panel, an earpiece or a field return (00_scope.md, Numbering of sources and destinations). -/
def earDest (e : Earpiece) : Dest := ⟨24 + e.val, by omega⟩
def lineDest (k : Line) : Dest := ⟨40 + k.val, by omega⟩

/-- The source of a programme input and of a field line's reporter. -/
def programmeSource (g : Programme) : Source := ⟨32 + g.val, by omega⟩
def lineSource (k : Line) : Source := ⟨24 + k.val, by omega⟩
def talkerSource (t : Talker) : Source := ⟨t.val, by omega⟩

/-- The classes of destinations (R41). -/
inductive DestClass where
  | panel (n : Fin 24) | earpiece (e : Earpiece) | fieldReturn (k : Line)
  deriving DecidableEq, Repr

/-- The class of a destination, by its number (R41). -/
def destClass (d : Dest) : DestClass :=
  if h : d.val < 24 then .panel ⟨d.val, h⟩
  else if h2 : d.val < 40 then .earpiece ⟨d.val - 24, by omega⟩
  else .fieldReturn ⟨d.val - 40, by omega⟩

/-- The own source of a destination (R41). -/
def ownSource (d : Dest) : Option Source :=
  match destClass d with
  | .panel n => some ⟨n.val, by omega⟩
  | .earpiece _ => none
  | .fieldReturn k => some (lineSource k)

/-- The level code stored for a source on a destination: a panel's own source is never below 40 (R49). -/
def sidetone (d : Dest) (x : Source) (l : Level) : Level :=
  if d.val < 24 ∧ ownSource d = some x ∧ l < 40 then 40 else l

end Sys2Proof.Machine
end

