-- ==== Sys2Proof/Machine/Ops.lean ====
section
/-! DEFINITION. The shared operations: records read and written, access windows (R24, R25, R27), notices raised and deposited
(R14, R15), the taking of a request at a SEL rise (R4), timers, and the starting of a probe (R119). -/

namespace Sys2Proof.Machine

/-! ### Tables -/

/-- A table with every place rewritten from its number and what stood there. -/
def remap {α β : Type} {n : Nat} (v : Vector α n) (f : Fin n → α → β) : Vector β n := Vector.ofFn fun i => f i (v.get i)

/-- A table with one place replaced. -/
def put {α : Type} {n : Nat} (v : Vector α n) (i : Fin n) (x : α) : Vector α n := v.set i.val x i.isLt

/-! ### Records of the state -/

def State.port (s : State) (p : Port) : PortRec := s.ports.get p
def State.putPort (s : State) (p : Port) (r : PortRec) : State := { s with ports := put s.ports p r }

def State.dest (s : State) (d : Dest) : DestRec := s.route.dests.get d
def State.putDest (s : State) (d : Dest) (r : DestRec) : State :=
  { s with route := { s.route with dests := put s.route.dests d r } }

def State.trim (s : State) (x : Source) : Ramp := s.route.trims.get x
def State.putTrim (s : State) (x : Source) (r : Ramp) : State :=
  { s with route := { s.route with trims := put s.route.trims x r } }

def State.meter (s : State) (d : Dest) : Meter := s.mix.meters.get d
def State.gate (s : State) (e : Earpiece) : Ramp := s.mix.gates.get e
def State.putGate (s : State) (e : Earpiece) (r : Ramp) : State :=
  { s with mix := { s.mix with gates := put s.mix.gates e r } }

def State.fb (s : State) (e : Earpiece) : Foldback := s.foldback.recs.get e
def State.putFb (s : State) (e : Earpiece) (f : Foldback) : State :=
  { s with foldback := { s.foldback with recs := put s.foldback.recs e f } }

def State.acc (s : State) (e : Earpiece) : Accessory := s.ident.accs.get e
def State.putAcc (s : State) (e : Earpiece) (a : Accessory) : State :=
  { s with ident := { s.ident with accs := put s.ident.accs e a } }

def State.line (s : State) (k : Line) : LineRec := s.field.lines.get k
def State.putLine (s : State) (k : Line) (l : LineRec) : State :=
  { s with field := { s.field with lines := put s.field.lines k l } }

/-- Ramp length that destination `d`'s fade code names (R40). -/
def State.fadeLength (s : State) (d : Dest) : Nat := fadeFrames (s.dest d).fade

/-! ### Timers: frames that remain, none when not running -/

/-- One frame passes (R155). A timer that has run down stays at 0 until its expiry is taken (log entry 4). -/
def tick (t : Option Nat) : Option Nat := t.map (· - 1)

/-- The timer has run down: its expiry is due. -/
def due (t : Option Nat) : Bool := decide (t = some 0)

/-! ### Access windows -/

/-- A window matches a destination: it is enabled and agrees with its base wherever its mask is 0 (R24). -/
def Window.matchesDest (w : Window) (d : Dest) : Bool :=
  w.enabled && decide ((BitVec.ofNat 6 d.val ^^^ w.base) &&& ~~~w.mask = 0)

def AccessUnit.window (a : AccessUnit) (p : Port) (w : Fin 2) : Window := (a.windows.get p).get w

/-- The governing window: window 0 if it matches, otherwise window 1 if it matches (R25). -/
def AccessUnit.governing (a : AccessUnit) (p : Port) (d : Dest) : Option Window :=
  if (a.window p 0).matchesDest d then some (a.window p 0)
  else if (a.window p 1).matchesDest d then some (a.window p 1)
  else none

/-- A port covers a destination when either of its windows matches it, listen-only or not (R14). -/
def AccessUnit.covers (a : AccessUnit) (p : Port) (d : Dest) : Bool :=
  (a.window p 0).matchesDest d || (a.window p 1).matchesDest d

/-- A DENIED answer with its reason (R27). -/
def denied (reason : Byte) : Answer := { outcome := .denied, results := [reason] }

/-- The window check of the Write class (R26, R27): a governing window that is not listen-only. -/
def AccessUnit.checkWrite (a : AccessUnit) (p : Port) (d : Dest) : Except Answer Window :=
  match a.governing p d with
  | none => .error (denied denyNoWindow)
  | some w => if w.listenOnly then .error (denied denyListenOnly) else .ok w

/-- The window check of the Read class (R26, R27): a governing window of either kind. -/
def AccessUnit.checkRead (a : AccessUnit) (p : Port) (d : Dest) : Except Answer Window :=
  match a.governing p d with
  | none => .error (denied denyNoWindow)
  | some w => .ok w

/-- RANGE, with no result parameter (R9; log entry 11). -/
def rangeAnswer : Answer := { outcome := .range }

/-- NO_AUTHORITY, with result length 0 (R34). -/
def noAuthorityAnswer : Answer := { outcome := .noAuthority }

/-- OK with results. -/
def okAnswer (results : List Byte) : Answer := { outcome := .ok, results := results }

/-! ### Notices -/

/-- A notice on its way to one port's queue. -/
abbrev Post := Port × Notice

/-- The deposit of a notice in a port's queue: appended while it holds fewer than 16 records, otherwise discarded with the
overrun flag set; discarded silently while the port is held in port reset (R15). -/
def PortRec.deposit (r : PortRec) (n : Notice) : PortRec :=
  if r.held then r
  else if r.queue.length < Config.queueCapacity then { r with queue := r.queue ++ [n] }
  else { r with overrun := true }

/-- One deposit; none is made while NRESET is asserted (R21). -/
def State.post (s : State) (x : Post) : State :=
  if s.nresetLow then s else s.putPort x.1 ((s.port x.1).deposit x.2)

/-- The deposits of one event, in their order (R17). -/
def State.postAll (s : State) (xs : List Post) : State := xs.foldl State.post s

/-- A notice to every port that covers `d` (R14). -/
def AccessUnit.toCovering (a : AccessUnit) (d : Dest) (n : Notice) : List Post :=
  ((List.finRange 4).filter fun p => a.covers p d).map fun p => (p, n)

/-- A notice to all four ports (R14). -/
def toAll (n : Notice) : List Post := (List.finRange 4).map fun p => (p, n)

/-! ### The taking of a request -/

/-- What the port's inbound bytes amount to at a SEL rise; none while the port is IDLE, when a SEL rise is ignored (R1). -/
def State.verdict (s : State) (p : Port) : Option FrameVerdict := (s.port p).txn.map fun t => classify t.bytes t.bits

/-- The request tag, where a SEL rise on port `p` is the taking of the request `i` (R4; log entry 3). -/
def State.spelled (s : State) (p : Port) (i : Instr) : Option Byte :=
  (s.port p).txn.bind fun t => spells t.bytes t.bits i

/-- The transaction ends: the port returns to IDLE, its data output released, and the reply just sent is discarded (R1, R4). -/
def State.endTransaction (s : State) (p : Port) : State :=
  s.putPort p { s.port p with txn := none, sdo := none, slot := none }

/-- The answer becomes the content of the reply slot (R4). -/
def State.reply (s : State) (p : Port) (tag : Byte) (a : Answer) : State :=
  s.putPort p { s.port p with slot := some { tag := tag, outcome := a.outcome, results := a.results } }

/-- The SEL rise that takes the request `i` from port `p`, where the port's inbound bytes spell it: the transaction ends, the
owner acts, and its answer is placed in the reply slot (R4). Where they do not, this event does not occur (log entries 2
and 3). -/
def takeRequest (s : State) (p : Port) (i : Instr) (act : State → State × Answer) :
    Host.Outcome State Fault Refusal :=
  match s.spelled p i with
  | none => .next s
  | some tag =>
    let r := act (s.endTransaction p)
    .next (r.1.reply p tag r.2)

/-- A request of the Authority class: NO_AUTHORITY from any port but the holder, before every other check (R34). -/
def withAuthority (p : Port) (act : State → State × Answer) (s : State) : State × Answer :=
  if s.access.holder = some p then act s else (s, noAuthorityAnswer)

/-! ### The identification unit's shared operations -/

/-- The contacts as they read under the bias being driven (R120, R125). -/
def Accessory.reading (a : Accessory) : Contacts :=
  match a.bias with
  | some b => a.sense.get b
  | none => Config.undrivenContacts

/-- The record at a probe's start: PROBING, no steps read, the debounce timer stopped, B0 driven, 2 ms on the settle timer; the
ID, rest reading and profile index keep their values (R119). -/
def Accessory.startProbe (a : Accessory) : Accessory :=
  { a with state := .probing, readings := [], debounce := none, bias := some 0, settle := some Config.settleFrames }

/-- The start of a probe; an earpiece that leaves PRESENT has its gate set to 0 with a ramp of length 0 (R119, R130). -/
def State.startProbe (s : State) (e : Earpiece) : State :=
  let s' := s.putAcc e (s.acc e).startProbe
  if (s.acc e).state = .present then s'.putGate e ((s.gate e).aim 0 0) else s'

/-- The profile lookup for an ID: the lowest valid profile 1 to 7 that matches, otherwise profile 0 (R127). -/
def lookup (profiles : Vector Profile 8) (id : BitVec 12) : ProfileIx :=
  ((List.finRange 8).find? fun i => decide (i ≠ 0) && (profiles.get i).valid && decide ((profiles.get i).matchId = id)).getD 0

/-- The ACCESSORY notice of an earpiece's record (R126; 09, section 9.2). -/
def accessoryNotice (e : Earpiece) (a : Accessory) : Notice :=
  { kind := .accessory, subject := byte e.val, d0 := byte (a.id.toNat / 256), d1 := byte a.id.toNat, d2 := a.state.code,
    d3 := byte a.profile.val }

end Sys2Proof.Machine
end

