-- ==== Sys2Proof/Machine/Access.lean ====
section
/-! DEFINITION. The access and authority unit's requests (02). -/

namespace Sys2Proof.Machine

/-- The authority record with another holder. -/
def State.setHolder (s : State) (h : Option Port) : State := { s with access := { s.access with holder := h } }

/-- CLAIM_AUTHORITY (R35). -/
def claimAuthority (p : Port) (s : State) : State × Answer :=
  match s.access.holder with
  | none => (s.setHolder (some p), okAnswer [])
  | some h => if h = p then (s, okAnswer []) else (s, { outcome := .held, results := [byte h.val] })

def execClaimAuthority (p : Port) (s : State) : Host.Outcome State Fault Refusal :=
  takeRequest s p (.claimAuthority p) (claimAuthority p)

/-- RELEASE_AUTHORITY (R36): STATE from any port but the holder. -/
def releaseAuthority (p : Port) (s : State) : State × Answer :=
  if s.access.holder = some p then (s.setHolder none, okAnswer []) else (s, { outcome := .state })

def execReleaseAuthority (p : Port) (s : State) : Host.Outcome State Fault Refusal :=
  takeRequest s p (.releaseAuthority p) (releaseAuthority p)

/-- The AUTHORITY_LOST notice that a seizure by `p` raises: to the former holder, where that is another port (R37). -/
def authorityLost (p : Port) : Option Port → List Post
  | some h => if h = p then [] else [(h, { kind := .authorityLost, subject := byte p.val })]
  | none => []

/-- SEIZE_AUTHORITY (R37). -/
def seizeAuthority (p : Port) (s : State) : State × Answer :=
  if s.access.seize.get p then ((s.setHolder (some p)).postAll (authorityLost p s.access.holder), okAnswer [])
  else (s, denied denyNoSeizeRight)

def execSeizeAuthority (p : Port) (s : State) : Host.Outcome State Fault Refusal :=
  takeRequest s p (.seizeAuthority p) (seizeAuthority p)

/-- SET_SEIZE_RIGHT (R38). -/
def setSeizeRight (port switch : Byte) (s : State) : State × Answer :=
  match inClass 4 port with
  | none => (s, rangeAnswer)
  | some q => ({ s with access := { s.access with seize := put s.access.seize q (isOn switch) } }, okAnswer [])

def execSetSeizeRight (p : Port) (port switch : Byte) (s : State) : Host.Outcome State Fault Refusal :=
  takeRequest s p (.setSeizeRight p port switch) (withAuthority p (setSeizeRight port switch))

/-- SET_WINDOW (R31): all six fields at once, masked by R10. -/
def setWindow (port window enabled base mask priority listenOnly tag : Byte) (s : State) : State × Answer :=
  match inClass 4 port, inClass 2 window with
  | some q, some w =>
    let rec' : Window :=
      { enabled := isOn enabled, base := maskSix base, mask := maskSix mask, priority := maskTwo priority,
        listenOnly := isOn listenOnly, tag := maskTwo tag }
    ({ s with access :=
        { s.access with windows := put s.access.windows q (put (s.access.windows.get q) w rec') } }, okAnswer [])
  | _, _ => (s, rangeAnswer)

def execSetWindow (p : Port) (port window enabled base mask priority listenOnly tag : Byte) (s : State) :
    Host.Outcome State Fault Refusal :=
  takeRequest s p (.setWindow p port window enabled base mask priority listenOnly tag)
    (withAuthority p (setWindow port window enabled base mask priority listenOnly tag))

/-- The number of destinations a window matches (R32). -/
def Window.matchCount (w : Window) : Nat := ((List.finRange 48).filter w.matchesDest).length

/-- READ_WINDOW (R32). -/
def readWindow (port window : Byte) (s : State) : State × Answer :=
  match inClass 4 port, inClass 2 window with
  | some q, some w =>
    let r := s.access.window q w
    (s, okAnswer [switchByte r.enabled, byte r.base.toNat, byte r.mask.toNat, byte r.priority.toNat,
      switchByte r.listenOnly, byte r.tag.toNat, byte r.matchCount, switchByte (s.access.seize.get q),
      optByte (s.access.holder.map (·.val))])
  | _, _ => (s, rangeAnswer)

def execReadWindow (p : Port) (port window : Byte) (s : State) : Host.Outcome State Fault Refusal :=
  takeRequest s p (.readWindow p port window) (readWindow port window)

end Sys2Proof.Machine
end

