-- ==== Sys2Proof/Machine/Accessory.lean ====
section
/-! DEFINITION. The accessory identification unit (06): probes, plug detect, profiles. -/

namespace Sys2Proof.Machine

/-- IDENTIFY (R124): BUSY while a probe is in progress. -/
def identify (p : Port) (earpiece : Byte) (s : State) : State × Answer :=
  match inClass 16 earpiece with
  | none => (s, rangeAnswer)
  | some e =>
    match s.access.checkWrite p (earDest e) with
    | .error a => (s, a)
    | .ok _ =>
      if (s.acc e).state = .probing then (s, { outcome := .busy }) else (s.startProbe e, { outcome := .accepted })

def execIdentify (p : Port) (earpiece : Byte) (s : State) : Host.Outcome State Fault Refusal :=
  takeRequest s p (.identify p earpiece) (identify p earpiece)

/-- READ_ACCESSORY (R125; 09, section 9.5). -/
def readAccessory (p : Port) (earpiece : Byte) (s : State) : State × Answer :=
  match inClass 16 earpiece with
  | none => (s, rangeAnswer)
  | some e =>
    match s.access.checkRead p (earDest e) with
    | .error a => (s, a)
    | .ok _ =>
      let a := s.acc e
      let pr := s.ident.profiles.get a.profile
      (s, okAnswer ([a.state.code] ++ bytes2 a.id.toNat ++ [byte a.rest.toNat, byte a.profile.val, byte pr.ceiling.val,
        pr.ear.code, byte a.reading.toNat, byte a.readings.length, byte (msLeft a.debounce)]))

def execReadAccessory (p : Port) (earpiece : Byte) (s : State) : Host.Outcome State Fault Refusal :=
  takeRequest s p (.readAccessory p earpiece) (readAccessory p earpiece)

/-- The digit of contact `k`: 8, 4, 2 and 1 times its value in steps 0 to 3 (R121). -/
def digit (readings : List Contacts) (k : Nat) : Nat := readings.foldl (fun n r => 2 * n + (r.getLsbD k).toNat) 0

/-- The accessory ID of four readings: 256 times digit 2, 16 times digit 1, plus digit 0 (R121). -/
def assembleId (readings : List Contacts) : BitVec 12 :=
  BitVec.ofNat 12 (256 * digit readings 2 + 16 * digit readings 1 + digit readings 0)

/-- Plug detect's comparison while an earpiece is PRESENT or ABSENT: the debounce timer starts when a difference from the rest
reading appears, keeps running while one lasts, and stops when the reading is the rest reading (R123). -/
def Accessory.watch (a : Accessory) : Accessory :=
  if a.state = .present ∨ a.state = .absent then
    { a with debounce :=
        if a.sense.get 3 = a.rest then none
        else match a.debounce with
          | some t => some t
          | none => some Config.debounceFrames }
  else a

/-- The record after the fourth reading `r` (R121): the ID and rest reading stored, PRESENT with the looked-up profile or
ABSENT with profile 0, plug detect watching afresh. -/
def Accessory.complete (a : Accessory) (profiles : Vector Profile 8) (r : Contacts) : Accessory :=
  let id := assembleId (a.readings ++ [r])
  let a' := { a with id := id, rest := r, readings := [], settle := none, debounce := none : Accessory }
  (if id = 0xFFF then { a' with state := .absent, profile := 0 }
    else { a' with state := .present, profile := lookup profiles id }).watch

/-- A probe's completion: the record, the gate opened where the state is PRESENT (R130), one ACCESSORY notice (R126). -/
def State.completeProbe (s : State) (e : Earpiece) : State :=
  let a := (s.acc e).complete s.ident.profiles (s.acc e).reading
  let s' := s.putAcc e a
  let s'' := if a.state = .present then s'.putGate e ((s.gate e).aim Config.unity Config.shortRamp) else s'
  s''.postAll (s.access.toCovering (earDest e) (accessoryNotice e a))

/-- One step of a probe before the fourth: the reading stored, the next bias driven, the settle timer restarted (R120). -/
def Accessory.stepProbe (a : Accessory) : Accessory :=
  { a with readings := a.readings ++ [a.reading], bias := some (Fin.ofNat 4 (a.readings.length + 1)),
           settle := some Config.settleFrames }

/-- SETTLE_TIMER_EXPIRY (R120). -/
def execSettleTimerExpiry (e : Earpiece) (s : State) : Host.Outcome State Fault Refusal :=
  let a := s.acc e
  if a.state = .probing ∧ due a.settle then
    if a.readings.length < 3 then .next (s.putAcc e a.stepProbe) else .next (s.completeProbe e)
  else .next s

/-- CONTACT_READING_CHANGE (R122, R123): the connector answers anew; plug detect compares where it watches. -/
def execContactReadingChange (e : Earpiece) (b0 b1 b2 b3 : Contacts) (s : State) : Host.Outcome State Fault Refusal :=
  .next (s.putAcc e { s.acc e with sense := #v[b0, b1, b2, b3] : Accessory }.watch)

/-- DEBOUNCE_EXPIRY (R123): a probe starts. -/
def execDebounceExpiry (e : Earpiece) (s : State) : Host.Outcome State Fault Refusal :=
  if due (s.acc e).debounce ∧ ((s.acc e).state = .present ∨ (s.acc e).state = .absent) then .next (s.startProbe e)
  else .next s

/-- The profile table with a profile stored; profile 0 keeps its valid switch and match ID (R128). -/
def storeProfile (t : Vector Profile 8) (i : ProfileIx) (valid : Bool) (matchId : BitVec 12) (ceiling : Level)
    (ear : EarMode) : Vector Profile 8 :=
  if i = 0 then put t i { t.get i with ceiling := ceiling, ear := ear }
  else put t i { valid := valid, matchId := matchId, ceiling := ceiling, ear := ear }

/-- A PRESENT earpiece's record looked up afresh; any other is left as it is (R128). -/
def Accessory.lookedUp (a : Accessory) (t : Vector Profile 8) : Accessory :=
  if a.state = .present then { a with profile := lookup t a.id } else a

/-- The earpieces whose profile index a new table changes, ascending (R128). -/
def IdentUnit.moved (u : IdentUnit) (t : Vector Profile 8) : List Earpiece :=
  (List.finRange 16).filter fun e => decide (((u.accs.get e).lookedUp t).profile ≠ (u.accs.get e).profile)

/-- SET_PROFILE (R128): the lookups and their notices, and the number of earpieces that moved. -/
def setProfile (index valid : Byte) (matchId : BitVec 16) (ceiling ear : Byte) (s : State) : State × Answer :=
  match inClass 8 index, readEar ear with
  | some i, some m =>
    let t := storeProfile s.ident.profiles i (isOn valid) (maskTwelve matchId) (clampLevel ceiling) m
    let moved := s.ident.moved t
    let ident' : IdentUnit := { profiles := t, accs := remap s.ident.accs fun _ a => a.lookedUp t }
    ({ s with ident := ident' }.postAll
        (moved.flatMap fun e => s.access.toCovering (earDest e) (accessoryNotice e (ident'.accs.get e))),
      okAnswer [byte moved.length])
  | _, _ => (s, rangeAnswer)

def execSetProfile (p : Port) (index valid : Byte) (matchId : BitVec 16) (ceiling ear : Byte) (s : State) :
    Host.Outcome State Fault Refusal :=
  takeRequest s p (.setProfile p index valid matchId ceiling ear)
    (withAuthority p (setProfile index valid matchId ceiling ear))

end Sys2Proof.Machine
end

