-- ==== Sys2Proof/Machine/Reference.lean ====
section
/-! DEFINITION. The reference unit (08): stability, selection, waiting, loss and restoring of the active source. -/

namespace Sys2Proof.Machine

/-- The stability of a source (R155): CRYSTAL always STABLE, a field line that is not tracked ABSENT. -/
def RefUnit.stability (r : RefUnit) : RefSource → Stability
  | .house => r.house
  | .crystal => .stable
  | .field j => if r.tracked = some j then r.field else .absent

/-- The REFERENCE notice of the record as it stands (R164; 09, section 9.2). -/
def RefUnit.notice (r : RefUnit) (cause : RefCause) : Notice :=
  { kind := .reference, subject := 0, d0 := r.active.code, d1 := r.selected.code, d2 := r.state.code, d3 := cause.code }

/-- A step of the reference unit: the record it leaves and the notices it raises (R164: at most one, to all four ports). -/
abbrev RefStep := RefUnit × List Post

/-- The record with its REFERENCE notice to all ports. -/
def RefUnit.reporting (r : RefUnit) (cause : RefCause) : RefStep := (r, toAll (r.notice cause))

/-- The selected source made active, STEADY, no deadline (R161, R163). -/
def RefUnit.settleOn (r : RefUnit) (x : RefSource) : RefUnit :=
  { r with active := x, selected := x, state := .steady, deadline := none }

/-- A source has become STABLE: a pending switch to it is made, a HOLDOVER waiting for it ends (R161, R163). -/
def RefUnit.becameStable (r : RefUnit) (x : RefSource) : RefStep :=
  if r.selected = x then
    match r.state with
    | .switching => (r.settleOn x).reporting .switched
    | .holdover => (r.settleOn x).reporting .restored
    | .steady => (r, [])
  else (r, [])

/-- A source has been lost: where it is the active one, CRYSTAL becomes active, STEADY becomes HOLDOVER, and SWITCHING keeps
its pending choice and deadline (R162). -/
def RefUnit.lost (r : RefUnit) (x : RefSource) : RefStep :=
  if r.active = x then
    RefUnit.reporting { r with active := .crystal, state := if r.state = .steady then .holdover else r.state } .lost
  else (r, [])

/-- The tracked line has entered LOCKED (R157). -/
def RefUnit.trackedEnters (r : RefUnit) : RefUnit :=
  { r with field := .settling, fieldSettle := some Config.stabilityFrames }

/-- The tracked line `k` has left LOCKED (R157, R162). -/
def RefUnit.trackedLeaves (r : RefUnit) (k : Line) : RefStep :=
  RefUnit.lost { r with field := .absent, fieldSettle := none } (.field k)

/-- The loop retuned to line `j`, unless it already follows it (R157, R159). -/
def RefUnit.retune (r : RefUnit) (j : Line) (locked : Bool) : RefUnit :=
  if r.tracked = some j then r
  else { r with tracked := some j, field := if locked then .settling else .absent,
                fieldSettle := if locked then some Config.stabilityFrames else none }

/-- The reference unit's step applied: the record stored, then its notices deposited. -/
def State.setReference (s : State) (x : RefStep) : State := { s with reference := x.1 }.postAll x.2

/-- The three results of a select: active source, selected source, state (R160). -/
def RefUnit.results (r : RefUnit) : List Byte := [r.active.code, r.selected.code, r.state.code]

/-- A SELECT_REFERENCE that has passed R159, judged on the record after any retune (R160). -/
def RefUnit.judge (r : RefUnit) (x : RefSource) : RefStep × Answer :=
  if x = r.active then
    let r' := r.settleOn x
    (if r'.selected ≠ r.selected ∨ r'.state ≠ r.state then r'.reporting .selected else (r', []), okAnswer r'.results)
  else if r.stability x = .stable then
    let r' := r.settleOn x
    (r'.reporting .selected, okAnswer r'.results)
  else
    let r' := { r with selected := x, state := .switching, deadline := some Config.deadlineFrames : RefUnit }
    (r'.reporting .pending, { outcome := .accepted, results := r'.results })

/-- The active field line that keeps the loop from being retuned for the choice `x` (R159, check 3). -/
def RefUnit.bound (r : RefUnit) (x : RefSource) : Option Line :=
  match x, r.active with
  | .field j, .field k => if j = k then none else some k
  | _, _ => none

/-- The record after the retune that a choice of a field line makes first (R159). -/
def State.retuned (s : State) (x : RefSource) : RefUnit :=
  match x with
  | .field j => s.reference.retune j (decide ((s.line j).state = .locked))
  | _ => s.reference

/-- SELECT_REFERENCE (R159). -/
def selectReference (choice : Byte) (s : State) : State × Answer :=
  match readChoice choice with
  | none => (s, rangeAnswer)
  | some x =>
    match s.reference.bound x with
    | some k => (s, { outcome := .state, results := [byte k.val] })
    | none =>
      let r := (s.retuned x).judge x
      (s.setReference r.1, r.2)

def execSelectReference (p : Port) (choice : Byte) (s : State) : Host.Outcome State Fault Refusal :=
  takeRequest s p (.selectReference p choice) (withAuthority p (selectReference choice))

/-- READ_REFERENCE (R165; 09, section 9.5). -/
def readReference (s : State) : State × Answer :=
  let r := s.reference
  (s, okAnswer ([r.selected.code, r.active.code, r.state.code, optByte (r.tracked.map (·.val))]
    ++ bytes2 (msLeft r.deadline) ++ [r.house.code, byte (msLeft r.houseSettle), r.field.code, byte (msLeft r.fieldSettle),
      match r.tracked with
      | some k => (s.line k).state.code
      | none => LineState.idle.code]))

def execReadReference (p : Port) (s : State) : Host.Outcome State Fault Refusal :=
  takeRequest s p (.readReference p) readReference

/-- A presence event where the house stability is ABSENT: SETTLING, with 100 ms on its timer (R156). -/
def RefUnit.housePresent (r : RefUnit) : RefUnit :=
  if r.house = .absent then { r with house := .settling, houseSettle := some Config.stabilityFrames } else r

/-- HOUSE_PRESENCE (R156). While NRESET is asserted only the pin changes. -/
def execHousePresence (s : State) : Host.Outcome State Fault Refusal :=
  let r := { s.reference with houseInput := true }
  .next { s with reference := if s.nresetLow then r else r.housePresent }

/-- The house stability becomes ABSENT, its timer stopped; a loss of the active HOUSE follows in the same event (R156,
R162). -/
def RefUnit.houseGone (r : RefUnit) : RefStep :=
  if r.house = .absent then (r, []) else RefUnit.lost { r with house := .absent, houseSettle := none } .house

/-- HOUSE_ABSENCE (R156, R162). -/
def execHouseAbsence (s : State) : Host.Outcome State Fault Refusal :=
  .next (s.setReference (RefUnit.houseGone { s.reference with houseInput := false }))

/-- HOUSE_SETTLE_EXPIRY (R156, R161, R163). -/
def execHouseSettleExpiry (s : State) : Host.Outcome State Fault Refusal :=
  let r := s.reference
  if r.house = .settling ∧ due r.houseSettle then
    .next (s.setReference (RefUnit.becameStable { r with house := .stable, houseSettle := none } .house))
  else .next s

/-- The tracked line's stability becomes STABLE (R157, R161, R163). -/
def RefUnit.fieldSettled (r : RefUnit) : RefStep :=
  match r.tracked with
  | some k => RefUnit.becameStable { r with field := .stable, fieldSettle := none } (.field k)
  | none => (r, [])

/-- FIELD_SETTLE_EXPIRY (R157, R161, R163). -/
def execFieldSettleExpiry (s : State) : Host.Outcome State Fault Refusal :=
  let r := s.reference
  if r.field = .settling ∧ due r.fieldSettle then .next (s.setReference r.fieldSettled) else .next s

/-- SWITCH_DEADLINE_EXPIRY (R161): the active source becomes the selected one. -/
def execSwitchDeadlineExpiry (s : State) : Host.Outcome State Fault Refusal :=
  let r := s.reference
  if r.state = .switching ∧ due r.deadline then .next (s.setReference ((r.settleOn r.active).reporting .timeout))
  else .next s

end Sys2Proof.Machine
end

