-- ==== Sys2Proof/Machine/Field.lean ====
section
/-! DEFINITION. The field line unit (07): line states, the elastic buffer and its slips, the plan and the depth budget. -/

namespace Sys2Proof.Machine

/-- The depth D of a depth code: 256, 512, 1,024 or 2,048 samples (R132). -/
def depthOf (c : BitVec 2) : Nat := 256 * 2 ^ c.toNat

def LineRec.size (l : LineRec) : Nat := depthOf l.depth

/-- The slip unit U, D/32 (R132). -/
def LineRec.slipUnit (l : LineRec) : Nat := l.size / 32

/-- The fill: the number of samples in the buffer (R131). -/
def LineRec.fill (l : LineRec) : Nat := l.buffer.length

/-- The deviation: the fill minus D/2 (R146). -/
def LineRec.deviation (l : LineRec) : Int := (l.fill : Int) - (l.size / 2 : Nat)

/-- The slips owed: the deviation divided by U, its fraction discarded toward zero (R146). -/
def LineRec.owed (l : LineRec) : Int := l.deviation.tdiv l.slipUnit

/-- The quiet threshold: 8,388,607 scaled by G(quiet code) (R148). -/
def LineRec.threshold (l : LineRec) : Int := scale sampleMax (gain l.quiet)

/-- Buffer, replay store and quiet run emptied (R136, R142). -/
def LineRec.flush (l : LineRec) : LineRec := { l with buffer := [], replay := [], quietRun := 0, delivered := none }

/-- The last `n` of a list. -/
def lastOf {α : Type} (n : Nat) (l : List α) : List α := l.drop (l.length - n)

/-- A slip of U samples toward the centre: the oldest dropped when slips are owed, the most recently delivered put back at the
head when they are owed the other way; the quiet run is emptied (R147, R148). -/
def LineRec.slip (l : LineRec) : LineRec :=
  if 0 < l.owed then { l with buffer := l.buffer.drop l.slipUnit, quietRun := 0 }
  else { l with buffer := lastOf l.slipUnit l.replay ++ l.buffer,
                replay := l.replay.take (l.replay.length - l.slipUnit), quietRun := 0 }

/-- A slip count one higher, stopping at 65,535 (R149). -/
def countUp (n : Nat) : Nat := min (n + 1) Config.slipCountMax

/-- A forced slip is owed: 8 or -8 (R147). -/
def LineRec.forcedOwed (l : LineRec) : Bool := decide (l.owed = 8) || decide (l.owed = -8)

/-- The forced slip of R147, where one is owed. -/
def LineRec.forceSlip (l : LineRec) : LineRec :=
  if l.forcedOwed then { l.slip with forcedSlips := countUp l.forcedSlips } else l

/-- A quiet slip is owed: the line is quiet and the slips owed have a magnitude from 1 to 7 (R148). -/
def LineRec.quietOwed (l : LineRec) : Bool :=
  decide (l.quietRun = Config.quietRunFull) && decide (1 ≤ l.owed.natAbs) && decide (l.owed.natAbs ≤ 7)

/-- The slip of a read event: forced at 8 or -8, otherwise quiet where the line is quiet (R147, R148). -/
def LineRec.readSlip (l : LineRec) : LineRec :=
  if l.forcedOwed then l.forceSlip
  else if l.quietOwed then { l.slip with quietSlips := countUp l.quietSlips } else l

/-- A delivered sample: handed to the mix engine, kept in the replay store, counted in the quiet run (R146, R148). -/
def LineRec.deliver (l : LineRec) (x : Sample) : LineRec :=
  { l with delivered := some x, replay := lastOf Config.replayCapacity (l.replay ++ [x]),
           quietRun := if (x.toInt.natAbs : Int) < l.threshold then min (l.quietRun + 1) Config.quietRunFull else 0 }

/-- The write of a sample at the tail; the stall timer restarts (R139, R146). -/
def LineRec.write (l : LineRec) (x : Sample) : LineRec :=
  { l with buffer := l.buffer ++ [x], timer := some Config.stallFrames }

/-- The FIELD_STATE notice of a line (R153; 09, section 9.2). -/
def fieldStateNotice (k : Line) (st : LineState) (cause : LineCause) : Notice :=
  { kind := .fieldState, subject := byte k.val, d0 := st.code, d1 := cause.code }

/-- A tracked line's entry into LOCKED or exit from it, reported to the reference unit (R154). -/
def State.reportTracked (s : State) (k : Line) (before after : LineState) : State :=
  if s.reference.tracked = some k then
    if before ≠ .locked ∧ after = .locked then { s with reference := s.reference.trackedEnters }
    else if before = .locked ∧ after ≠ .locked then s.setReference (s.reference.trackedLeaves k)
    else s
  else s

/-- A change of a line's state: the record stored with its cause, FIELD_STATE raised to the covering ports, then the report to
the reference unit (R153, R154). -/
def State.changeLine (s : State) (k : Line) (l : LineRec) (cause : LineCause) : State :=
  let before := (s.line k).state
  (((s.putLine k { l with lastCause := cause }).postAll
    (s.access.toCovering (lineDest k) (fieldStateNotice k l.state cause))).reportTracked k before l.state)

/-- The line brought to ACQUIRING with the plan's acquire limit on its timer (R135, R143, R144). -/
def LineRec.acquireFrom (l : LineRec) : LineRec :=
  { l with state := .acquiring, timer := some (l.acquire * Config.framesPerSecond) }

/-- The STATE answer that carries a line's state (R135, R151). -/
def lineStateAnswer (l : LineRec) : Answer := { outcome := .state, results := [l.state.code] }

/-- IDLE or PARKED. -/
def LineRec.down (l : LineRec) : Bool := decide (l.state = .idle) || decide (l.state = .parked)

/-- FIELD_START (R135). -/
def fieldStart (p : Port) (line : Byte) (s : State) : State × Answer :=
  match inClass 8 line with
  | none => (s, rangeAnswer)
  | some k =>
    match s.access.checkWrite p (lineDest k) with
    | .error a => (s, a)
    | .ok _ =>
      if (s.line k).down then
        (s.changeLine k { (s.line k).flush with quietSlips := 0, forcedSlips := 0 : LineRec }.acquireFrom .start,
          { outcome := .accepted })
      else (s, lineStateAnswer (s.line k))

def execFieldStart (p : Port) (line : Byte) (s : State) : Host.Outcome State Fault Refusal :=
  takeRequest s p (.fieldStart p line) (fieldStart p line)

/-- Whether line `k` is the active reference (R136). -/
def State.isActiveLine (s : State) (k : Line) : Bool := decide (s.reference.active = .field k)

/-- The STATE answer with result REFERENCE (R136). -/
def referenceAnswer : Answer := { outcome := .state, results := [resultReference] }

/-- The line flushed, its timer stopped, in a state without receiver traffic (R136, R137). -/
def LineRec.takenDown (l : LineRec) (st : LineState) : LineRec := { l.flush with state := st, timer := none }

/-- FIELD_STOP (R136). -/
def fieldStop (p : Port) (line : Byte) (s : State) : State × Answer :=
  match inClass 8 line with
  | none => (s, rangeAnswer)
  | some k =>
    match s.access.checkWrite p (lineDest k) with
    | .error a => (s, a)
    | .ok _ =>
      if s.isActiveLine k then (s, referenceAnswer)
      else if (s.line k).state = .idle then (s, okAnswer [])
      else (s.changeLine k ((s.line k).takenDown .idle) .stop, okAnswer [])

def execFieldStop (p : Port) (line : Byte) (s : State) : Host.Outcome State Fault Refusal :=
  takeRequest s p (.fieldStop p line) (fieldStop p line)

/-- FIELD_PARK (R137). -/
def fieldPark (p : Port) (line : Byte) (s : State) : State × Answer :=
  match inClass 8 line with
  | none => (s, rangeAnswer)
  | some k =>
    match s.access.checkWrite p (lineDest k) with
    | .error a => (s, a)
    | .ok _ =>
      if s.isActiveLine k then (s, referenceAnswer)
      else if (s.line k).state = .idle then (s, lineStateAnswer (s.line k))
      else if (s.line k).state = .parked then (s, okAnswer [])
      else (s.changeLine k ((s.line k).takenDown .parked) .park, okAnswer [])

def execFieldPark (p : Port) (line : Byte) (s : State) : Host.Outcome State Fault Refusal :=
  takeRequest s p (.fieldPark p line) (fieldPark p line)

/-- The remaining time of an acquire or retry timer (R152). -/
def LineRec.attemptTimer (l : LineRec) : Option Nat :=
  if l.state = .acquiring ∨ l.state = .lost then l.timer else none

/-- READ_FIELD (R152; 09, section 9.5). -/
def readField (p : Port) (line : Byte) (s : State) : State × Answer :=
  match inClass 8 line with
  | none => (s, rangeAnswer)
  | some k =>
    match s.access.checkRead p (lineDest k) with
    | .error a => (s, a)
    | .ok _ =>
      let l := s.line k
      (s, okAnswer ([l.state.code, byte l.depth.toNat, byte l.quiet.val, switchByte l.autoWake, byte l.acquire]
        ++ bytes2 l.fill ++ [if l.state = .locked then BitVec.ofInt 8 l.owed else 0]
        ++ bytes2 l.quietSlips ++ bytes2 l.forcedSlips ++ [l.lastCause.code] ++ bytes2 (msLeft l.attemptTimer)
        ++ [byte ((s.isActiveLine k).toNat + 2 * (decide (s.reference.tracked = some k)).toNat)]))

def execReadField (p : Port) (line : Byte) (s : State) : Host.Outcome State Fault Refusal :=
  takeRequest s p (.readField p line) (readField p line)

/-- The sum of the depths of the lines other than `k` (R151). -/
def FieldUnit.otherDepths (f : FieldUnit) (k : Line) : Nat :=
  ((List.finRange 8).map fun j => if j = k then 0 else (f.lines.get j).size).sum

/-- SET_FIELD_PLAN (R151). -/
def setFieldPlan (line depth quiet autoWake acquire : Byte) (s : State) : State × Answer :=
  match inClass 8 line with
  | none => (s, rangeAnswer)
  | some k =>
    let total := s.field.otherDepths k + depthOf (maskTwo depth)
    if ¬ (s.line k).down then (s, lineStateAnswer (s.line k))
    else if Config.depthBudget < total then (s, { outcome := .full, results := [fullDepth] })
    else (s.putLine k { s.line k with depth := maskTwo depth, quiet := clampLevel quiet, autoWake := isOn autoWake,
                                      acquire := clampAcquire acquire },
          okAnswer (bytes2 (Config.depthBudget - total)))

def execSetFieldPlan (p : Port) (line depth quiet autoWake acquire : Byte) (s : State) :
    Host.Outcome State Fault Refusal :=
  takeRequest s p (.setFieldPlan p line depth quiet autoWake acquire)
    (withAuthority p (setFieldPlan line depth quiet autoWake acquire))

/-- RECEIVER_LOCK (R139): ignored in every state but ACQUIRING (R133). -/
def execReceiverLock (k : Line) (s : State) : Host.Outcome State Fault Refusal :=
  if (s.line k).state = .acquiring then
    .next (s.changeLine k { (s.line k).flush with state := .centering, timer := some Config.stallFrames } .lock)
  else .next s

/-- CENTERING or LOCKED: the receiver is locked and writes samples (R133). -/
def LineRec.receiving (l : LineRec) : Bool := decide (l.state = .centering) || decide (l.state = .locked)

/-- The line as it becomes LOST (R142). -/
def LineRec.loseLock (l : LineRec) : LineRec := { l.flush with state := .lost, timer := some Config.retryFrames }

/-- RECEIVER_LOCK_LOSS (R142). -/
def execReceiverLockLoss (k : Line) (s : State) : Host.Outcome State Fault Refusal :=
  if (s.line k).receiving then .next (s.changeLine k (s.line k).loseLock .lockLoss) else .next s

/-- STALL_EXPIRY (R142). -/
def execStallExpiry (k : Line) (s : State) : Host.Outcome State Fault Refusal :=
  if (s.line k).receiving ∧ due (s.line k).timer then .next (s.changeLine k (s.line k).loseLock .stall) else .next s

/-- ACQUIRE_EXPIRY (R140). -/
def execAcquireExpiry (k : Line) (s : State) : Host.Outcome State Fault Refusal :=
  if (s.line k).state = .acquiring ∧ due (s.line k).timer then
    .next (s.changeLine k { s.line k with state := .parked, timer := none } .noLock)
  else .next s

/-- RETRY_EXPIRY (R143). -/
def execRetryExpiry (k : Line) (s : State) : Host.Outcome State Fault Refusal :=
  if (s.line k).state = .lost ∧ due (s.line k).timer then .next (s.changeLine k (s.line k).acquireFrom .retry)
  else .next s

/-- FIELD_CALL (R144): the notice, then the wake where auto-wake is on. -/
def execFieldCall (k : Line) (s : State) : Host.Outcome State Fault Refusal :=
  if (s.line k).state = .parked then
    let s' := s.postAll (s.access.toCovering (lineDest k) { kind := .fieldCall, subject := byte k.val })
    .next (if (s.line k).autoWake then s'.changeLine k (s.line k).acquireFrom .wake else s')
  else .next s

/-- FIELD_WRITE (R139, R141, R146, R147). The active reference line's writes are ACTIVE_REFERENCE_SAMPLE events (R150). -/
def execFieldWrite (k : Line) (x : Sample) (s : State) : Host.Outcome State Fault Refusal :=
  let l := (s.line k).write x
  if s.isActiveLine k then .next s
  else match (s.line k).state with
    | .centering =>
      if l.fill = l.size / 2 then .next (s.changeLine k { l with state := .locked, quietRun := 0, replay := [] } .centred)
      else .next (s.putLine k l)
    | .locked => .next (s.putLine k l.forceSlip)
    | _ => .next s

/-- FIELD_READ (R146, R147, R148): the head sample of a LOCKED line removed and delivered. The active reference line's reads
are ACTIVE_REFERENCE_SAMPLE events (R150). -/
def execFieldRead (k : Line) (s : State) : Host.Outcome State Fault Refusal :=
  let l := s.line k
  if s.isActiveLine k then .next s
  else match l.state, l.buffer with
    | .locked, x :: rest => .next (s.putLine k ({ l with buffer := rest : LineRec }.deliver x).readSlip)
    | _, _ => .next s

/-- The combined write and read of the active reference line: the fill does not change and no slip is taken (R150). -/
def LineRec.passThrough (l : LineRec) (x : Sample) : LineRec :=
  match (l.write x).buffer with
  | y :: rest => { l.write x with buffer := rest : LineRec }.deliver y
  | [] => l

/-- ACTIVE_REFERENCE_SAMPLE (R150). -/
def execActiveReferenceSample (k : Line) (x : Sample) (s : State) : Host.Outcome State Fault Refusal :=
  if s.isActiveLine k ∧ (s.line k).state = .locked then .next (s.putLine k ((s.line k).passThrough x)) else .next s

/-- One crystal period: the stall timer of the active reference line counts it (R150; log entry 5). -/
def State.crystalPeriod (s : State) : State :=
  match s.reference.active with
  | .field k => if (s.line k).receiving then s.putLine k { s.line k with timer := tick (s.line k).timer } else s
  | _ => s

end Sys2Proof.Machine
end

