-- ==== Sys2Proof/Machine/Route.lean ====
section
/-! DEFINITION. The route store's requests (03). -/

namespace Sys2Proof.Machine

/-- The entry's target for its state and level code (R45). -/
def Entry.goal (x : Entry) : Nat :=
  match x.state with
  | .active => gain x.level
  | .fadingOut => 0

/-- The entry handed a new target over a ramp of `frames` from where its gain word stands (R45). -/
def Entry.retarget (x : Entry) (frames : Nat) : Entry := { x with ramp := x.ramp.aim x.goal frames }

/-- The entry as it becomes FADING_OUT (R52). -/
def Entry.fadeOut (x : Entry) (frames : Nat) : Entry := { x with state := .fadingOut : Entry }.retarget frames

/-- A FADING_OUT entry whose gain word has reached 0 is freed (R54). -/
def Entry.finished (x : Entry) : Bool := decide (x.state = .fadingOut) && decide (x.ramp.cur = 0)

/-- A list without its finished entries; those behind them close up in their order (R42, R54). -/
def unfinished (l : List Entry) : List Entry := l.filter fun x => !x.finished

/-- A destination's list replaced by `l`, whose finished entries leave it and return to the pool in the same event (R54). `l`
has as many entries as the list it replaces. -/
def State.settleList (s : State) (d : Dest) (l : List Entry) : State :=
  let s' := s.putDest d { s.dest d with list := unfinished l }
  { s' with route := { s'.route with free := s.route.free + (l.length - (unfinished l).length) } }

/-- The entry for a source in a list (R42: at most one). -/
def findEntry (l : List Entry) (x : Source) : Option Entry := l.find? fun y => decide (y.source = x)

/-- The list with every entry for a source rewritten. -/
def mapEntry (l : List Entry) (x : Source) (f : Entry → Entry) : List Entry :=
  l.map fun y => if y.source = x then f y else y

/-- The new entry of R47, its gain word rising from 0. -/
def newEntry (frames : Nat) (x : Source) (level : Level) (mode : EntryMode) (p : Port) (w : Window) : Entry :=
  { source := x, level := level, ramp := (Ramp.rest 0).aim (gain level) frames, mode := mode, creator := p,
    priority := w.priority, tag := w.tag, state := .active }

/-- Revival in place, under the asker's stamps (R48). -/
def Entry.revive (y : Entry) (frames : Nat) (level : Level) (mode : EntryMode) (p : Port) (w : Window) : Entry :=
  { y with state := .active, level := level, mode := mode, creator := p, priority := w.priority,
           tag := w.tag : Entry }.retarget frames

/-- Checks 3 to 7 of R46 and the admission that follows them (R47, R48, R49). -/
def routeAddChecked (p : Port) (w : Window) (d : Dest) (x : Source) (l : Level) (m : EntryMode) (s : State) :
    State × Answer :=
  let list := (s.dest d).list
  let frames := s.fadeLength d
  let level := sidetone d x l
  if 40 ≤ d.val ∧ ownSource d = some x then (s, { outcome := .self })
  else match findEntry list x with
    | some y =>
      if y.state = .active then (s, { outcome := .state })
      else (s.putDest d { s.dest d with list := mapEntry list x fun y => y.revive frames level m p w },
        okAnswer [actionRevived, byte level.val])
    | none =>
      if Config.listCapacity ≤ list.length then (s, { outcome := .full, results := [fullList] })
      else if s.route.free = 0 then (s, { outcome := .full, results := [fullPool] })
      else
        let s' := s.putDest d { s.dest d with list := list ++ [newEntry frames x level m p w] }
        ({ s' with route := { s'.route with free := s.route.free - 1 } }, okAnswer [actionNew, byte level.val])

/-- ROUTE_ADD (R46). -/
def routeAdd (p : Port) (dest source level mode : Byte) (s : State) : State × Answer :=
  match inClass 48 dest, inClass 40 source, readMode mode with
  | some d, some x, some m =>
    match s.access.checkWrite p d with
    | .error a => (s, a)
    | .ok w => routeAddChecked p w d x (clampLevel level) m s
  | _, _, _ => (s, rangeAnswer)

def execRouteAdd (p : Port) (dest source level mode : Byte) (s : State) : Host.Outcome State Fault Refusal :=
  takeRequest s p (.routeAdd p dest source level mode) (routeAdd p dest source level mode)

/-- PROTECTED, with the entry's creator port and stamped priority (R51). -/
def protectedAnswer (y : Entry) : Answer :=
  { outcome := .protectedEntry, results := [byte y.creator.val, byte y.priority.toNat] }

/-- The live crosspoint a request of priority `w.priority` may change: ABSENT for a missing or FADING_OUT entry, PROTECTED for
one stamped above the asker's priority (R51, R52). -/
def liveEntry (l : List Entry) (x : Source) (w : Window) : Except Answer Entry :=
  match findEntry l x with
  | none => .error { outcome := .absent }
  | some y =>
    if y.state = .fadingOut then .error { outcome := .absent }
    else if w.priority < y.priority then .error (protectedAnswer y) else .ok y

/-- ROUTE_LEVEL (R51). -/
def routeLevel (p : Port) (dest source level : Byte) (s : State) : State × Answer :=
  match inClass 48 dest, inClass 40 source with
  | some d, some x =>
    match s.access.checkWrite p d with
    | .error a => (s, a)
    | .ok w =>
      match liveEntry (s.dest d).list x w with
      | .error a => (s, a)
      | .ok _ =>
        let level := sidetone d x (clampLevel level)
        (s.putDest d { s.dest d with
          list := mapEntry (s.dest d).list x fun y => { y with level := level : Entry }.retarget (s.fadeLength d) },
          okAnswer [byte level.val])
  | _, _ => (s, rangeAnswer)

def execRouteLevel (p : Port) (dest source level : Byte) (s : State) : Host.Outcome State Fault Refusal :=
  takeRequest s p (.routeLevel p dest source level) (routeLevel p dest source level)

/-- ROUTE_REMOVE (R52, R54). -/
def routeRemove (p : Port) (dest source : Byte) (s : State) : State × Answer :=
  match inClass 48 dest, inClass 40 source with
  | some d, some x =>
    match s.access.checkWrite p d with
    | .error a => (s, a)
    | .ok w =>
      match liveEntry (s.dest d).list x w with
      | .error a => (s, a)
      | .ok _ =>
        (s.settleList d (mapEntry (s.dest d).list x fun y => y.fadeOut (s.fadeLength d)), okAnswer [])
  | _, _ => (s, rangeAnswer)

def execRouteRemove (p : Port) (dest source : Byte) (s : State) : Host.Outcome State Fault Refusal :=
  takeRequest s p (.routeRemove p dest source) (routeRemove p dest source)

/-- An entry that passes the tag filter of a ROUTE_CLEAR: ACTIVE, with the filter's tag or any tag (R53). -/
def Entry.passes (y : Entry) (filter : Option (BitVec 2)) : Bool :=
  decide (y.state = .active) && (match filter with | none => true | some t => decide (y.tag = t))

/-- An entry that a ROUTE_CLEAR of this filter and priority clears (R53). -/
def Entry.cleared (y : Entry) (filter : Option (BitVec 2)) (priority : BitVec 2) : Bool :=
  y.passes filter && decide (y.priority ≤ priority)

/-- An entry that a ROUTE_CLEAR counts as protected (R53). -/
def Entry.kept (y : Entry) (filter : Option (BitVec 2)) (priority : BitVec 2) : Bool :=
  y.passes filter && decide (priority < y.priority)

/-- ROUTE_CLEAR (R53): the numbers cleared and protected. -/
def routeClear (p : Port) (dest filter : Byte) (s : State) : State × Answer :=
  match inClass 48 dest, readFilter filter with
  | some d, some f =>
    match s.access.checkWrite p d with
    | .error a => (s, a)
    | .ok w =>
      let list := (s.dest d).list
      (s.settleList d (list.map fun y => if y.cleared f w.priority then y.fadeOut (s.fadeLength d) else y),
        okAnswer [byte (list.countP fun y => y.cleared f w.priority), byte (list.countP fun y => y.kept f w.priority)])
  | _, _ => (s, rangeAnswer)

def execRouteClear (p : Port) (dest filter : Byte) (s : State) : Host.Outcome State Fault Refusal :=
  takeRequest s p (.routeClear p dest filter) (routeClear p dest filter)

/-- READ_ROUTES (R58; 09, section 9.5). -/
def readRoutes (p : Port) (dest : Byte) (s : State) : State × Answer :=
  match inClass 48 dest with
  | some d =>
    match s.access.checkRead p d with
    | .error a => (s, a)
    | .ok _ =>
      let r := s.dest d
      (s, okAnswer ([byte r.master.val, byte r.fade.toNat] ++ bytes2 s.route.free ++ [byte r.list.length]
        ++ r.list.flatMap Entry.bytes))
  | none => (s, rangeAnswer)

def execReadRoutes (p : Port) (dest : Byte) (s : State) : Host.Outcome State Fault Refusal :=
  takeRequest s p (.readRoutes p dest) (readRoutes p dest)

/-- SET_DEST (R56). -/
def setDest (p : Port) (dest master fade : Byte) (s : State) : State × Answer :=
  match inClass 48 dest with
  | some d =>
    match s.access.checkWrite p d with
    | .error a => (s, a)
    | .ok _ =>
      (s.putDest d { s.dest d with master := clampLevel master, fade := maskTwo fade }, okAnswer [])
  | none => (s, rangeAnswer)

def execSetDest (p : Port) (dest master fade : Byte) (s : State) : Host.Outcome State Fault Refusal :=
  takeRequest s p (.setDest p dest master fade) (setDest p dest master fade)

/-- SET_TRIM (R62): the target G(-trim code) over 48 frames from the current gain word. -/
def setTrim (source trim : Byte) (s : State) : State × Answer :=
  match inClass 40 source with
  | some x => (s.putTrim x ((s.trim x).aim (trimGain (clampTrim trim)) Config.shortRamp), okAnswer [])
  | none => (s, rangeAnswer)

def execSetTrim (p : Port) (source trim : Byte) (s : State) : Host.Outcome State Fault Refusal :=
  takeRequest s p (.setTrim p source trim) (withAuthority p (setTrim source trim))

/-- An entry that fades at a port reset of `p`: ACTIVE, MOMENTARY and created by `p` (R59). -/
def Entry.momentaryOf (y : Entry) (p : Port) : Bool :=
  decide (y.state = .active) && decide (y.mode = .momentary) && decide (y.creator = p)

/-- A list as a port reset of `p` leaves it, before its finished entries are freed (R59). -/
def fadeMomentary (p : Port) (frames : Nat) (l : List Entry) : List Entry :=
  l.map fun y => if y.momentaryOf p then y.fadeOut frames else y

/-- The number of entries in all lists. -/
def RouteStore.used (r : RouteStore) : Nat := ((List.finRange 48).map fun d => (r.dests.get d).list.length).sum

/-- Every list rewritten by `f`, its finished entries freed and returned to the pool (R54). `f` keeps the length of each
list. -/
def RouteStore.settleAll (r : RouteStore) (f : DestRec → List Entry) : RouteStore :=
  let dests := remap r.dests fun _ x => { x with list := unfinished (f x) }
  { r with dests := dests, free := r.free + (r.used - ({ r with dests := dests } : RouteStore).used) }

/-- The route store's part of a port reset (R59). -/
def RouteStore.portReset (r : RouteStore) (p : Port) : RouteStore :=
  r.settleAll fun x => fadeMomentary p (fadeFrames x.fade) x.list

end Sys2Proof.Machine
end

