-- ==== Sys2Proof/Machine/Mix.lean ====
section
/-! DEFINITION. The mix engine (04): the frame event, stage by stage, and the meters. -/

namespace Sys2Proof.Machine

/-! ### The frame's timers (R155) -/

def Foldback.frame (f : Foldback) : Foldback := { f with stateTimer := tick f.stateTimer, limitTimer := tick f.limitTimer }

def Accessory.frame (a : Accessory) : Accessory := { a with settle := tick a.settle, debounce := tick a.debounce }

def RefUnit.frame (r : RefUnit) : RefUnit :=
  { r with deadline := tick r.deadline, houseSettle := tick r.houseSettle, fieldSettle := tick r.fieldSettle }

/-- A line's timer; the stall timer of the active reference line counts crystal periods, not frames (R150). -/
def LineRec.frame (l : LineRec) (activeLine : Bool) : LineRec :=
  if activeLine && l.receiving then l else { l with timer := tick l.timer }

/-- Every timer of the part advances by one frame (R155). -/
def State.frameTimers (s : State) : State :=
  { s with
    foldback := { s.foldback with recs := remap s.foldback.recs fun _ f => f.frame },
    ident := { s.ident with accs := remap s.ident.accs fun _ a => a.frame },
    field := { s.field with lines := remap s.field.lines fun k l => l.frame (s.isActiveLine k) },
    reference := s.reference.frame }

/-! ### Gain words in motion (R70) -/

def Entry.frame (y : Entry) : Entry := { y with ramp := y.ramp.advance }

/-- Trims and entries stepped; an entry whose fade completes is freed in this frame (R54, R70). -/
def RouteStore.frame (r : RouteStore) : RouteStore :=
  let r' := r.settleAll fun x => x.list.map Entry.frame
  { r' with trims := remap r.trims fun _ t => t.advance }

/-- Every current gain word moved by its step (R70). -/
def State.frameGains (s : State) : State :=
  { s with
    route := s.route.frame,
    mix := { s.mix with gates := remap s.mix.gates fun _ g => g.advance },
    foldback := { s.foldback with recs := remap s.foldback.recs fun _ f =>
      { f with bed := f.bed.advance, slot := f.slot.advance } } }

/-! ### The stages -/

/-- The raw sample of a field line's reporter: what its reader has delivered while LOCKED, 0 in every other state (R134). Where
a LOCKED line's reader has delivered none, a free value (log entry 6). -/
def LineRec.raw (l : LineRec) (missing : Sample) : Int :=
  if l.state = .locked then (l.delivered.getD missing).toInt else 0

/-- The raw sample of a source (R74). `mics` and `programmes` are the samples of the input lanes. -/
def State.raw (s : State) (mics programmes : List Sample) (x : Source) : Int :=
  if x.val < 24 then (mics.getD x.val 0).toInt
  else if x.val < 32 then (s.line (Fin.ofNat 8 (x.val - 24))).raw (Config.undelivered (8 * s.mix.unread + (x.val - 24)))
  else (programmes.getD (x.val - 32) 0).toInt

/-- The trimmed samples of the frame (R74). -/
def State.trimmed (s : State) (mics programmes : List Sample) : Vector Int 40 :=
  Vector.ofFn fun x => saturate24 (scale (s.raw mics programmes x) (s.trim x).cur)

/-- The list sum (R75). -/
def listSum (t : Vector Int 40) (l : List Entry) : Int := (l.map fun y => scale (t.get y.source) y.ramp.cur).sum

/-- The bed component (R76). -/
def Foldback.bedPart (f : Foldback) (t : Vector Int 40) : Int :=
  match f.bedSource with
  | some g => scale (t.get (programmeSource g)) f.bed.cur
  | none => 0

/-- The talk component (R76). -/
def Foldback.talkPart (f : Foldback) (t : Vector Int 40) : Int :=
  match f.slotSource with
  | some x => scale (t.get (talkerSource x)) f.slot.cur
  | none => 0

/-- An earpiece's two channel sums by its ear mode (R78). -/
def channels (m : EarMode) (list bed talk : Int) : Int × Int :=
  match m with
  | .mono => (list + bed + talk, list + bed + talk)
  | .split => (list + bed, talk)
  | .leftOnly => (list + bed + talk, 0)
  | .rightOnly => (0, list + bed + talk)

/-- The ceiling of a ceiling code: 8,388,607 scaled by its gain word (R81). -/
def ceilingOf (c : Level) : Int := scale sampleMax (gain c)

/-- A destination's output in a frame: left and right channel (a panel or field return has the left one alone), and whether
the limit stage changed a value. -/
structure Output where
  left : Int
  right : Int
  clipped : Bool
  deriving DecidableEq, Repr

/-- A panel's or field return's output: the list sum, the master level, the 24-bit limit (R77, R79, R80). -/
def laneOutput (sum : Int) (master : Level) : Output :=
  let m := scale sum (gain master)
  { left := saturate24 m, right := 0, clipped := decide (saturate24 m ≠ m) }

/-- An earpiece's output: the channel sums, the master level, the ceiling, the gate (R78, R79, R81, R82). -/
def earOutput (sums : Int × Int) (master : Level) (ceiling : Int) (gate : Nat) : Output :=
  let l := scale sums.1 (gain master)
  let r := scale sums.2 (gain master)
  let l' := saturate (-ceiling) ceiling l
  let r' := saturate (-ceiling) ceiling r
  { left := scale l' gate, right := scale r' gate, clipped := decide (l' ≠ l) || decide (r' ≠ r) }

/-- The profile an earpiece's accessory record names (R78, R81). -/
def State.profileOf (s : State) (e : Earpiece) : Profile := s.ident.profiles.get (s.acc e).profile

/-- The output of a destination from the frame's trimmed samples and stepped gain words (R73). -/
def State.outputOf (s : State) (t : Vector Int 40) (d : Dest) : Output :=
  let sum := listSum t (s.dest d).list
  match destClass d with
  | .earpiece e =>
    let pr := s.profileOf e
    earOutput (channels pr.ear sum ((s.fb e).bedPart t) ((s.fb e).talkPart t)) (s.dest d).master (ceilingOf pr.ceiling)
      (s.gate e).cur
  | .panel _ => laneOutput sum (s.dest d).master
  | .fieldReturn _ => laneOutput sum (s.dest d).master

/-- The larger magnitude of an output's channels (R83). -/
def Output.magnitude (o : Output) : Nat := max o.left.natAbs o.right.natAbs

/-- The meter after a frame (R80, R81, R83). -/
def Meter.frame (m : Meter) (o : Output) : Meter := { peak := max m.peak o.magnitude, clip := m.clip || o.clipped }

/-- The destination whose speaker or return has the number given. -/
def panelDest (n : Fin 24) : Dest := ⟨n.val, by omega⟩

/-- The states in which the outgoing link carries the return (R133, R134). -/
def LineRec.sends (l : LineRec) : Bool :=
  decide (l.state = .acquiring) || decide (l.state = .centering) || decide (l.state = .locked) || decide (l.state = .lost)

/-- The line at the end of a frame event: its return sent or the idle pattern, the delivered sample consumed (R134). -/
def LineRec.afterFrame (l : LineRec) (out : Int) : LineRec :=
  { l with link := if l.sends then some out else none, delivered := none }

/-- A LOCKED line whose reader has delivered nothing for this frame. -/
def LineRec.unreadLocked (l : LineRec) : Bool := decide (l.state = .locked) && l.delivered.isNone

/-- The CLIP notices of a frame: one for each destination whose clear clip flag is set, ascending (R84; log entry 10). -/
def State.clipPosts (s : State) (outs : Vector Output 48) : List Post :=
  ((List.finRange 48).filter fun d => (outs.get d).clipped && !(s.meter d).clip).flatMap fun d =>
    s.access.toCovering d { kind := .clip, subject := byte d.val }

/-- The outputs of a frame handed onward and metered (R73, R83, R134). -/
def State.handOn (s : State) (outs : Vector Output 48) : State :=
  { s with
    mix := { s.mix with
      meters := remap s.mix.meters fun d m => m.frame (outs.get d),
      panelOut := Vector.ofFn fun n => (outs.get (panelDest n)).left,
      earOut := Vector.ofFn fun e => ((outs.get (earDest e)).left, (outs.get (earDest e)).right),
      unread := if (List.finRange 8).any fun k => (s.line k).unreadLocked then s.mix.unread + 1 else s.mix.unread },
    field := { s.field with lines := remap s.field.lines fun k l => l.afterFrame (outs.get (lineDest k)).left } }

/-- The state whose gain words have been stepped for this frame. -/
def State.stepped (s : State) : State := s.frameTimers.frameGains

/-- The outputs of a frame from the stepped state. -/
def State.outputs (s : State) (mics programmes : List Sample) : Vector Output 48 :=
  let t := s.trimmed mics programmes
  Vector.ofFn fun d => s.outputOf t d

/-- One house frame: timers, gain words, the 48 outputs, meters, CLIP notices (R73). -/
def State.frame (s : State) (mics programmes : List Sample) : State :=
  let s' := s.stepped
  let outs := s'.outputs mics programmes
  (s'.handOn outs).postAll (s'.clipPosts outs)

/-- MIX_FRAME_EVENT (R73). -/
def execMixFrameEvent (mics programmes : List Sample) (s : State) : Host.Outcome State Fault Refusal :=
  .next (s.frame mics programmes)

/-- The span of a READ_LEVELS: it ends early at destination 47 (R85). -/
def span (first : Dest) (count : Nat) : List Dest :=
  (List.finRange 48).filter fun d => decide (first.val ≤ d.val) && decide (d.val < first.val + count)

/-- A destination's four bytes in a READ_LEVELS reply: 0 and clear where the asker does not cover it (R85). -/
def levelBytes (covered : Bool) (m : Meter) : List Byte :=
  if covered then bytes3 m.peak ++ [switchByte m.clip] else bytes3 0 ++ [switchByte false]

/-- READ_LEVELS (R85): the covered meters of the span are read and cleared. -/
def readLevels (p : Port) (first count : Byte) (s : State) : State × Answer :=
  match inClass 48 first with
  | none => (s, rangeAnswer)
  | some d0 =>
    let ds := span d0 (clampCount count)
    ({ s with mix := { s.mix with meters := remap s.mix.meters fun d m =>
        if d ∈ ds ∧ s.access.covers p d then { peak := 0, clip := false } else m } },
      okAnswer ([byte d0.val, byte ds.length] ++ ds.flatMap fun d => levelBytes (s.access.covers p d) (s.meter d)))

def execReadLevels (p : Port) (first count : Byte) (s : State) : Host.Outcome State Fault Refusal :=
  takeRequest s p (.readLevels p first count) (readLevels p first count)

end Sys2Proof.Machine
end

