-- ==== Sys2Proof/Machine/Port.lean ====
section
/-! DEFINITION. The control port's own commands (01): transactions, framing, and the three requests the port answers
itself. -/

namespace Sys2Proof.Machine

/-- TRANSACTION_BEGIN (R1, R2): on a port that is IDLE and not held in reset, the outbound frame is frozen and the port passes
to IN_TRANSACTION with nothing received. Otherwise the fall starts no transaction. -/
def execTransactionBegin (p : Port) (s : State) : Host.Outcome State Fault Refusal :=
  let r := s.port p
  if s.nresetLow || r.held || r.txn.isSome then .next s
  else .next (s.putPort p
    { r with txn := some { bytes := [], bits := [], frame := r.freeze (s.access.authorityFlag p) } })

/-- The byte that eight bits, most significant first, make (R1). -/
def packBits (bits : List Bool) : Byte := byte (bits.foldl (fun n b => 2 * n + b.toNat) 0)

/-- Bit `7 - j` of outbound byte `i`, for clock period `8 * i + j`; bytes beyond the frame are 0x00 (R1, R2). -/
def outboundBit (frame : List Byte) (n : Nat) : Bool := (frame.getD (n / 8) 0).getLsbD (7 - n % 8)

/-- One clock period of a transaction: a bit in, a bit out; every eighth bit completes an inbound byte (R1). -/
def Transaction.clock (t : Transaction) (sdi : Bool) : Transaction :=
  if t.bits.length = 7 then { t with bytes := t.bytes ++ [packBits (t.bits ++ [sdi])], bits := [] }
  else { t with bits := t.bits ++ [sdi] }

/-- The number of clock periods of the transaction so far. -/
def Transaction.clocks (t : Transaction) : Nat := 8 * t.bytes.length + t.bits.length

/-- CLOCK_PERIOD (R1): ignored while the port is IDLE. -/
def execClockPeriod (p : Port) (sdi : Bool) (s : State) : Host.Outcome State Fault Refusal :=
  match (s.port p).txn with
  | none => .next s
  | some t =>
    .next (s.putPort p { s.port p with txn := some (t.clock sdi), sdo := some (outboundBit t.frame t.clocks) })

/-- FRAMING (R3, R4): the SEL rise on a malformed frame; the reply carries the framing reason. -/
def execFraming (p : Port) (s : State) : Host.Outcome State Fault Refusal :=
  match s.verdict p with
  | some (.malformed tag reason) =>
    .next ((s.endTransaction p).reply p tag { outcome := .framing, results := [reason.code] })
  | _ => .next s

/-- UNKNOWN (R5): the SEL rise on a well-formed frame of an unknown code; the reply carries the code. -/
def execUnknown (p : Port) (s : State) : Host.Outcome State Fault Refusal :=
  match s.verdict p with
  | some (.unknownCode tag code) =>
    .next ((s.endTransaction p).reply p tag { outcome := .unknown, results := [code] })
  | _ => .next s

/-- NOP (R11). -/
def execNop (p : Port) (s : State) : Host.Outcome State Fault Refusal :=
  takeRequest s p (.nop p) fun s => (s, okAnswer [])

/-- QUERY_PART (R12): the part code 0x4E48, the revision 1, the asking port. -/
def execQueryPart (p : Port) (s : State) : Host.Outcome State Fault Refusal :=
  takeRequest s p (.queryPart p) fun s => (s, okAnswer [0x4E, 0x48, 1, byte p.val])

/-- The port after the oldest `n` notices have left its queue: a queue left empty clears the overrun flag (R18). -/
def PortRec.drain (r : PortRec) (n : Nat) : PortRec :=
  { r with queue := r.queue.drop n, overrun := if r.queue.drop n = [] then false else r.overrun }

/-- FETCH_NOTICES(max) (R18). -/
def execFetchNotices (p : Port) (max : Byte) (s : State) : Host.Outcome State Fault Refusal :=
  takeRequest s p (.fetchNotices p max) fun s =>
    let r := s.port p
    (s.putPort p (r.drain (clampFetch max)), okAnswer ((r.queue.take (clampFetch max)).flatMap Notice.bytes))

end Sys2Proof.Machine
end

