-- ==== Sys2Proof/Machine/Foldback.lean ====
section
/-! DEFINITION. The foldback controller (05): talk into earpieces, its timers, the waiting queue, groups. -/

namespace Sys2Proof.Machine

/-- The bed target the rules give a state: 0 with bed source NONE, G(nominal) in IDLE, G(duck) otherwise (R90). -/
def Foldback.bedTarget (f : Foldback) (st : FoldbackState) : Nat :=
  match f.bedSource with
  | none => 0
  | some _ => if st = .idle then gain f.nominal else gain f.duck

/-- The bed ducked over 48 frames (R90). -/
def Foldback.duckBed (f : Foldback) : Foldback := { f with bed := f.bed.aim (f.bedTarget .talk) Config.shortRamp }

/-- The bed restored over the fade code's length (R90). -/
def Foldback.restoreBed (f : Foldback) (fade : Nat) : Foldback := { f with bed := f.bed.aim (f.bedTarget .idle) fade }

/-- The slot opened on a talker, or switched to it, rising from 0 over 48 frames (R91). -/
def Foldback.openSlot (f : Foldback) (t : Talker) : Foldback :=
  { f with slotSource := some t, slot := f.slot.aim (gain f.interrupt) Config.shortRamp true }

/-- The slot closed over 48 frames from its current value; it keeps naming its talker (R91). -/
def Foldback.closeSlot (f : Foldback) : Foldback := { f with slot := f.slot.aim 0 Config.shortRamp }

/-- The limit timer at a grant: started with the limit setting, or stopped where the setting is 0 (R101). -/
def Foldback.startLimit (f : Foldback) : Foldback :=
  { f with limitTimer := if f.limit = 0 then none else some (f.limit.toNat * Config.framesPerSecond) }

/-- The order of the waiting queue: higher priority first, and within a priority the earlier arrival (R93). -/
def TalkRec.before (a b : TalkRec) : Bool :=
  decide (b.priority < a.priority) || (decide (a.priority = b.priority) && decide (a.arrival < b.arrival))

/-- A record placed in the waiting queue (R93). -/
def enqueue (t : TalkRec) : List TalkRec → List TalkRec
  | [] => [t]
  | u :: rest => if t.before u then t :: u :: rest else u :: enqueue t rest

/-- The position of a port's record in the queue, counting the head as 1 (R97). -/
def queuePosition (q : List TalkRec) (p : Port) : Nat := (q.findIdx fun t => decide (t.port = p)) + 1

/-- Talk notices (R13): TALK_GRANTED, TALK_PREEMPTED and TALK_ENDED on an earpiece. -/
def talkGranted (e : Earpiece) (t : TalkRec) : Post :=
  (t.port, { kind := .talkGranted, subject := byte e.val, d0 := byte t.talker.val })
def talkPreempted (e : Earpiece) (t : TalkRec) (preemptor : Port) : Post :=
  (t.port, { kind := .talkPreempted, subject := byte e.val, d0 := byte preemptor.val })
def talkEnded (e : Earpiece) (t : TalkRec) (reason : Byte) : Post :=
  (t.port, { kind := .talkEnded, subject := byte e.val, d0 := reason })

/-- A step of the foldback controller: the record it leaves and the notices it raises, in their order. -/
abbrev TalkStep := Foldback × List Post

/-- A grant from IDLE: into LEAD, or through it into TALK where the lead is 0 (R95). -/
def Foldback.grantIdle (f : Foldback) (t : TalkRec) : Foldback :=
  let g := { f with holder := some t : Foldback }.duckBed.startLimit
  if f.lead = 0 then { g with state := .talk, stateTimer := none : Foldback }.openSlot t.talker
  else { g with state := .lead, stateTimer := some (f.lead.val * Config.framesPerMs) }

/-- A grant from HOLD, straight into TALK (R96). -/
def Foldback.grantHold (f : Foldback) (t : TalkRec) : Foldback :=
  ({ f with holder := some t, state := .talk, stateTimer := none : Foldback }.openSlot t.talker).startLimit

/-- The queue once a preempted holder stands in it: the records that stay, and the displaced tail (R98, R99). -/
def preemptedQueue (h : TalkRec) (q : List TalkRec) : List TalkRec × List TalkRec :=
  ((enqueue h q).take Config.waitingCapacity, (enqueue h q).drop Config.waitingCapacity)

/-- A preemption of the holder `h` by `t` (R98, R99): TALK_PREEMPTED, then TALK_ENDED with DISPLACED. -/
def Foldback.preempt (f : Foldback) (e : Earpiece) (h t : TalkRec) : TalkStep :=
  let q := preemptedQueue h f.queue
  let g := { f with holder := some t, queue := q.1 : Foldback }.startLimit
  (if f.state = .talk then g.openSlot t.talker else g,
    talkPreempted e h t.port :: q.2.map fun u => talkEnded e u reasonDisplaced)

/-- The results LEAD and TALK of a grant (R95). -/
def Foldback.talkResult (f : Foldback) : Answer := okAnswer [if f.state = .lead then resultLead else resultTalk]

/-- Whether a port has a record on the earpiece, and which: HOLDER or WAITING (R94, R104). -/
def Foldback.standing (f : Foldback) (p : Port) : Option Byte :=
  if f.holder.map (·.port) = some p then some resultHolder
  else if f.queue.any fun t => decide (t.port = p) then some resultWaiting
  else none

/-- A TALK_REQUEST that has passed its window check, with the record it would make (R94 step 3, R95, R96, R97, R98). -/
def Foldback.request (f : Foldback) (e : Earpiece) (t : TalkRec) : TalkStep × Answer :=
  match f.standing t.port with
  | some r => ((f, []), { outcome := .state, results := [r] })
  | none =>
    match f.holder with
    | none =>
      let g := if f.state = .hold then f.grantHold t else f.grantIdle t
      ((g, []), g.talkResult)
    | some h =>
      if h.priority < t.priority then
        let g := f.preempt e h t
        (g, g.1.talkResult)
      else if f.queue.length < Config.waitingCapacity then
        let q := enqueue t f.queue
        (({ f with queue := q }, []),
          { outcome := .queued, results := [byte (queuePosition q t.port), byte h.port.val] })
      else ((f, []), { outcome := .full, results := [fullQueue] })

/-- The holder leaves: the queue head is granted, or the earpiece passes to HOLD or to IDLE (R103). `fade` is the length that
destination 24+e's fade code names. -/
def Foldback.holderLeaves (f : Foldback) (e : Earpiece) (fade : Nat) : TalkStep :=
  match f.queue with
  | t :: rest =>
    (({ f with holder := some t, queue := rest, state := .talk, stateTimer := none : Foldback }.openSlot t.talker).startLimit,
      [talkGranted e t])
  | [] =>
    let g := { f with holder := none, limitTimer := none : Foldback }.closeSlot
    if f.hold = 0 then ({ g with state := .idle, stateTimer := none : Foldback }.restoreBed fade, [])
    else ({ g with state := .hold, stateTimer := some (f.hold.toNat * 10 * Config.framesPerMs) }, [])

/-- A waiting port's record leaves the queue (R104). -/
def Foldback.withdrawWaiting (f : Foldback) (p : Port) : Foldback :=
  { f with queue := f.queue.filter fun t => !decide (t.port = p) }

/-- A port's record ends, by release or by port reset, whichever it is (R104, R115). -/
def Foldback.withdraw (f : Foldback) (e : Earpiece) (fade : Nat) (p : Port) : TalkStep :=
  if f.standing p = some resultHolder then f.holderLeaves e fade else (f.withdrawWaiting p, [])

/-- The foldback controller's step on earpiece `e` applied: the record stored, then its notices deposited. -/
def State.setTalk (s : State) (e : Earpiece) (x : TalkStep) : State := (s.putFb e x.1).postAll x.2

/-- One TALK_REQUEST on one earpiece, single or for a group: the window check and the admission (R94, R113). A record that is
made takes the next arrival number (R92; log entry 13). -/
def State.talkOn (s : State) (p : Port) (e : Earpiece) (talker : Talker) (origin : Option Group) : State × Answer :=
  match s.access.checkWrite p (earDest e) with
  | .error a => (s, a)
  | .ok w =>
    let t : TalkRec :=
      { port := p, talker := talker, priority := w.priority, tag := w.tag, origin := origin,
        arrival := s.foldback.arrivals }
    let r := (s.fb e).request e t
    if r.2.outcome = .ok ∨ r.2.outcome = .queued then
      ({ s with foldback := { s.foldback with arrivals := s.foldback.arrivals + 1 } }.setTalk e r.1, r.2)
    else (s, r.2)

/-- TALK_REQUEST (R94). -/
def talkRequest (p : Port) (earpiece talker : Byte) (s : State) : State × Answer :=
  match inClass 16 earpiece, inClass 32 talker with
  | some e, some t => s.talkOn p e t none
  | _, _ => (s, rangeAnswer)

def execTalkRequest (p : Port) (earpiece talker : Byte) (s : State) : Host.Outcome State Fault Refusal :=
  takeRequest s p (.talkRequest p earpiece talker) (talkRequest p earpiece talker)

/-- One TALK_RELEASE on one earpiece, single or for a group (R104, R114). -/
def State.releaseOn (s : State) (p : Port) (e : Earpiece) : State × Answer :=
  match s.access.checkWrite p (earDest e) with
  | .error a => (s, a)
  | .ok _ =>
    match (s.fb e).standing p with
    | none => (s, { outcome := .absent })
    | some r => (s.setTalk e ((s.fb e).withdraw e (s.fadeLength (earDest e)) p), okAnswer [r])

/-- TALK_RELEASE (R104). -/
def talkRelease (p : Port) (earpiece : Byte) (s : State) : State × Answer :=
  match inClass 16 earpiece with
  | some e => s.releaseOn p e
  | none => (s, rangeAnswer)

def execTalkRelease (p : Port) (earpiece : Byte) (s : State) : Host.Outcome State Fault Refusal :=
  takeRequest s p (.talkRelease p earpiece) (talkRelease p earpiece)

/-- The new settings of a SET_FOLDBACK stored; the duck code is raised to the nominal code if it is lower (R88, R108). -/
def Foldback.settings (f : Foldback) (bed : Option Programme) (nominal duck interrupt : Level) (lead : Fin 21)
    (hold limit : Byte) : Foldback :=
  { f with bedSource := bed, nominal := nominal, duck := max nominal duck, interrupt := interrupt, lead := lead,
           hold := hold, limit := limit }

/-- The bed of the record `g` with new settings, where `f` held the old ones (R109): silenced at once by a change to NONE, set
from 0 by a change from NONE, otherwise set anew only where its target changes. -/
def Foldback.rebed (f g : Foldback) (fade : Nat) : Foldback :=
  let target := g.bedTarget g.state
  let frames := if g.state = .idle then fade else Config.shortRamp
  match f.bedSource, g.bedSource with
  | some _, none => { g with bed := g.bed.aim 0 0 }
  | none, some _ => { g with bed := g.bed.aim target frames true }
  | _, _ => if target = g.bed.target then g else { g with bed := g.bed.aim target frames }

/-- The slot of the record `g` with new settings: in TALK a changed interrupt code moves its target (R109). -/
def Foldback.reslot (f g : Foldback) : Foldback :=
  if g.state = .talk ∧ g.interrupt ≠ f.interrupt then
    { g with slot := g.slot.aim (gain g.interrupt) Config.shortRamp }
  else g

/-- SET_FOLDBACK (R108, R109). -/
def setFoldback (p : Port) (earpiece bed nominal duck interrupt lead hold limit : Byte) (s : State) : State × Answer :=
  match inClass 16 earpiece, readBed bed with
  | some e, some b =>
    match s.access.checkWrite p (earDest e) with
    | .error a => (s, a)
    | .ok _ =>
      let f := s.fb e
      let g := f.settings b (clampLevel nominal) (clampLevel duck) (clampLevel interrupt) (clampLead lead) hold limit
      (s.putFb e (f.reslot (f.rebed g (s.fadeLength (earDest e)))), okAnswer [byte g.nominal.val, byte g.duck.val])
  | _, _ => (s, rangeAnswer)

def execSetFoldback (p : Port) (earpiece bed nominal duck interrupt lead hold limit : Byte) (s : State) :
    Host.Outcome State Fault Refusal :=
  takeRequest s p (.setFoldback p earpiece bed nominal duck interrupt lead hold limit)
    (setFoldback p earpiece bed nominal duck interrupt lead hold limit)

/-- READ_FOLDBACK (R110; 09, section 9.5). -/
def readFoldback (p : Port) (earpiece : Byte) (s : State) : State × Answer :=
  match inClass 16 earpiece with
  | none => (s, rangeAnswer)
  | some e =>
    match s.access.checkRead p (earDest e) with
    | .error a => (s, a)
    | .ok _ =>
      let f := s.fb e
      (s, okAnswer ([f.state.code, optByte (f.slotSource.map (·.val))] ++ holderBytes f.holder
        ++ [byte f.queue.length] ++ f.queue.flatMap TalkRec.bytes
        ++ [optByte (f.bedSource.map fun g => 32 + g.val), byte f.nominal.val, byte f.duck.val, byte f.interrupt.val,
            byte f.lead.val, f.hold, f.limit]
        ++ bytes2 (msLeft f.stateTimer) ++ [byte (secondsLeft f.limitTimer)]))

def execReadFoldback (p : Port) (earpiece : Byte) (s : State) : Host.Outcome State Fault Refusal :=
  takeRequest s p (.readFoldback p earpiece) (readFoldback p earpiece)

/-- The members of a group as it stands, ascending (R112, R113). -/
def FoldbackUnit.members (u : FoldbackUnit) (g : Group) : List Earpiece :=
  (List.finRange 16).filter fun e => (u.groups.get g).getLsbD e.val

/-- A request applied to members one after another, each with its earpiece number and outcome in the reply (R113, R114). -/
def visit (act : State → Earpiece → State × Answer) : List Earpiece → State → State × List Byte
  | [], s => (s, [])
  | e :: rest, s =>
    let r := act s e
    let r' := visit act rest r.1
    (r'.1, byte e.val :: byte r.2.outcome.code :: r'.2)

/-- The reply of a group request: OK, the number of members visited, then each member's number and outcome. -/
def visitAll (act : State → Earpiece → State × Answer) (members : List Earpiece) (s : State) : State × Answer :=
  let r := visit act members s
  (r.1, okAnswer (byte members.length :: r.2))

/-- TALK_GROUP (R113). -/
def talkGroup (p : Port) (group talker : Byte) (s : State) : State × Answer :=
  match inClass 8 group, inClass 32 talker with
  | some g, some t => visitAll (fun s e => s.talkOn p e t (some g)) (s.foldback.members g) s
  | _, _ => (s, rangeAnswer)

def execTalkGroup (p : Port) (group talker : Byte) (s : State) : Host.Outcome State Fault Refusal :=
  takeRequest s p (.talkGroup p group talker) (talkGroup p group talker)

/-- RELEASE_GROUP (R114). -/
def releaseGroup (p : Port) (group : Byte) (s : State) : State × Answer :=
  match inClass 8 group with
  | some g => visitAll (fun s e => s.releaseOn p e) (s.foldback.members g) s
  | none => (s, rangeAnswer)

def execReleaseGroup (p : Port) (group : Byte) (s : State) : Host.Outcome State Fault Refusal :=
  takeRequest s p (.releaseGroup p group) (releaseGroup p group)

/-- The number of earpieces in a member set (R112). -/
def memberCount (m : BitVec 16) : Nat := ((List.finRange 16).filter fun e => m.getLsbD e.val).length

/-- SET_GROUP (R112). -/
def setGroup (group : Byte) (members : BitVec 16) (s : State) : State × Answer :=
  match inClass 8 group with
  | some g =>
    ({ s with foldback := { s.foldback with groups := put s.foldback.groups g members } },
      okAnswer [byte (memberCount members)])
  | none => (s, rangeAnswer)

def execSetGroup (p : Port) (group : Byte) (members : BitVec 16) (s : State) : Host.Outcome State Fault Refusal :=
  takeRequest s p (.setGroup p group members) (withAuthority p (setGroup group members))

/-- LEAD_EXPIRY (R100): TALK, the slot open on the current holder's talker. -/
def execLeadExpiry (e : Earpiece) (s : State) : Host.Outcome State Fault Refusal :=
  let f := s.fb e
  if f.state = .lead ∧ due f.stateTimer then
    let g := { f with state := .talk, stateTimer := none : Foldback }
    .next (s.putFb e (match f.holder with
      | some t => g.openSlot t.talker
      | none => g))
  else .next s

/-- LIMIT_EXPIRY (R105): TALK_ENDED with LIMIT, then the holder leaves as by a release. -/
def execLimitExpiry (e : Earpiece) (s : State) : Host.Outcome State Fault Refusal :=
  let f := s.fb e
  match f.holder with
  | some t =>
    if due f.limitTimer then
      let r := f.holderLeaves e (s.fadeLength (earDest e))
      .next (s.setTalk e (r.1, talkEnded e t reasonLimit :: r.2))
    else .next s
  | none => .next s

/-- HOLD_EXPIRY (R102): IDLE, the bed restored. -/
def execHoldExpiry (e : Earpiece) (s : State) : Host.Outcome State Fault Refusal :=
  let f := s.fb e
  if f.state = .hold ∧ due f.stateTimer then
    .next (s.putFb e ({ f with state := .idle, stateTimer := none : Foldback }.restoreBed (s.fadeLength (earDest e))))
  else .next s

/-- The foldback controller's part of a port reset: on each earpiece where `p` has a record, it is withdrawn (R115). Earpieces
are taken in ascending order (log entry 10). -/
def State.withdrawPort (s : State) (p : Port) : State :=
  (List.finRange 16).foldl (fun s e =>
    match (s.fb e).standing p with
    | none => s
    | some _ => s.setTalk e ((s.fb e).withdraw e (s.fadeLength (earDest e)) p)) s

end Sys2Proof.Machine
end

