-- ==== Sys2Proof/Machine/Reset.lean ====
section
/-! DEFINITION. Port reset and chip reset (01, section 1.8). -/

namespace Sys2Proof.Machine

/-- The port's own state at the assertion of PRST: the transaction abandoned, slot and queue emptied, overrun clear, held
(R19). -/
def PortRec.assertReset : PortRec := { PortRec.reset with held := true }

/-- The authority record at a port reset: freed where the reset port holds it (R39). -/
def AccessUnit.portReset (a : AccessUnit) (p : Port) : AccessUnit :=
  if a.holder = some p then { a with holder := none } else a

/-- PRST_ASSERT (R19, R20): the port, then the authority record, the route store and the foldback controller. A port already
held has no further assertion (log entry 2). -/
def execPrstAssert (p : Port) (s : State) : Host.Outcome State Fault Refusal :=
  if (s.port p).held then .next s
  else
    let s' := s.putPort p PortRec.assertReset
    .next ({ s' with access := s'.access.portReset p, route := s'.route.portReset p }.withdrawPort p)

/-- PRST_RELEASE (R19): the hold ends and nothing else changes. -/
def execPrstRelease (p : Port) (s : State) : Host.Outcome State Fault Refusal :=
  .next (s.putPort p { s.port p with held := false })

/-- The part while NRESET is asserted: every block at its chip-reset values, the pins as they are (R21, R118, R156). -/
def State.chipReset (s : State) : State :=
  { nresetLow := true
    ports := remap s.ports fun _ r => { PortRec.reset with held := r.held }
    access := AccessUnit.reset
    route := RouteStore.reset
    mix := MixEngine.reset
    foldback := FoldbackUnit.reset
    ident := { accs := remap s.ident.accs fun _ a => Accessory.reset a.sense, profiles := profilesReset }
    field := FieldUnit.reset
    reference := RefUnit.reset s.reference.houseInput
    pending := s.pending }

/-- CHIP_RESET (R21). -/
def execChipReset (s : State) : Host.Outcome State Fault Refusal := .next s.chipReset

/-- The release of NRESET: a probe starts on every earpiece, and the house input is read once (R119, R156). -/
def State.releaseNreset (s : State) : State :=
  { s with
    nresetLow := false,
    ident := { s.ident with accs := remap s.ident.accs fun _ a => a.startProbe },
    reference := if s.reference.houseInput then s.reference.housePresent else s.reference }

/-- NRESET_RELEASE (R21). -/
def execNresetRelease (s : State) : Host.Outcome State Fault Refusal :=
  .next (if s.nresetLow then s.releaseNreset else s)

end Sys2Proof.Machine
end

