-- ==== Sys2Proof/Machine/Dispatch.lean ====
section
/-! DEFINITION. One arm for each command, in the order of spec/opcode_table.json. -/

namespace Sys2Proof.Machine

def exec (i : Instr) (s : State) : Host.Outcome State Fault Refusal :=
  match i with
  | .transactionBegin p => Sys2Proof.Machine.execTransactionBegin p s
  | .framing p => Sys2Proof.Machine.execFraming p s
  | .unknown p => Sys2Proof.Machine.execUnknown p s
  | .nop p => Sys2Proof.Machine.execNop p s
  | .queryPart p => Sys2Proof.Machine.execQueryPart p s
  | .fetchNotices p max => Sys2Proof.Machine.execFetchNotices p max s
  | .claimAuthority p => Sys2Proof.Machine.execClaimAuthority p s
  | .releaseAuthority p => Sys2Proof.Machine.execReleaseAuthority p s
  | .seizeAuthority p => Sys2Proof.Machine.execSeizeAuthority p s
  | .setSeizeRight p port switch => Sys2Proof.Machine.execSetSeizeRight p port switch s
  | .setWindow p port window enabled base mask priority listenOnly tag => Sys2Proof.Machine.execSetWindow p port window enabled base mask priority listenOnly tag s
  | .readWindow p port window => Sys2Proof.Machine.execReadWindow p port window s
  | .routeAdd p dest source level mode => Sys2Proof.Machine.execRouteAdd p dest source level mode s
  | .routeLevel p dest source level => Sys2Proof.Machine.execRouteLevel p dest source level s
  | .routeRemove p dest source => Sys2Proof.Machine.execRouteRemove p dest source s
  | .routeClear p dest filter => Sys2Proof.Machine.execRouteClear p dest filter s
  | .readRoutes p dest => Sys2Proof.Machine.execReadRoutes p dest s
  | .setDest p dest master fade => Sys2Proof.Machine.execSetDest p dest master fade s
  | .setTrim p source trim => Sys2Proof.Machine.execSetTrim p source trim s
  | .readLevels p first count => Sys2Proof.Machine.execReadLevels p first count s
  | .talkRequest p earpiece talker => Sys2Proof.Machine.execTalkRequest p earpiece talker s
  | .talkRelease p earpiece => Sys2Proof.Machine.execTalkRelease p earpiece s
  | .setFoldback p earpiece bed nominal duck interrupt lead hold limit => Sys2Proof.Machine.execSetFoldback p earpiece bed nominal duck interrupt lead hold limit s
  | .readFoldback p earpiece => Sys2Proof.Machine.execReadFoldback p earpiece s
  | .talkGroup p group talker => Sys2Proof.Machine.execTalkGroup p group talker s
  | .releaseGroup p group => Sys2Proof.Machine.execReleaseGroup p group s
  | .setGroup p group members => Sys2Proof.Machine.execSetGroup p group members s
  | .identify p earpiece => Sys2Proof.Machine.execIdentify p earpiece s
  | .readAccessory p earpiece => Sys2Proof.Machine.execReadAccessory p earpiece s
  | .setProfile p index valid matchId ceiling ear => Sys2Proof.Machine.execSetProfile p index valid matchId ceiling ear s
  | .fieldStart p line => Sys2Proof.Machine.execFieldStart p line s
  | .fieldStop p line => Sys2Proof.Machine.execFieldStop p line s
  | .fieldPark p line => Sys2Proof.Machine.execFieldPark p line s
  | .readField p line => Sys2Proof.Machine.execReadField p line s
  | .setFieldPlan p line depth quiet autoWake acquire => Sys2Proof.Machine.execSetFieldPlan p line depth quiet autoWake acquire s
  | .selectReference p choice => Sys2Proof.Machine.execSelectReference p choice s
  | .readReference p => Sys2Proof.Machine.execReadReference p s
  | .prstAssert p => Sys2Proof.Machine.execPrstAssert p s
  | .prstRelease p => Sys2Proof.Machine.execPrstRelease p s
  | .chipReset => Sys2Proof.Machine.execChipReset s
  | .nresetRelease => Sys2Proof.Machine.execNresetRelease s
  | .mixFrameEvent mics programmes => Sys2Proof.Machine.execMixFrameEvent mics programmes s
  | .leadExpiry e => Sys2Proof.Machine.execLeadExpiry e s
  | .limitExpiry e => Sys2Proof.Machine.execLimitExpiry e s
  | .holdExpiry e => Sys2Proof.Machine.execHoldExpiry e s
  | .settleTimerExpiry e => Sys2Proof.Machine.execSettleTimerExpiry e s
  | .contactReadingChange e b0 b1 b2 b3 => Sys2Proof.Machine.execContactReadingChange e b0 b1 b2 b3 s
  | .debounceExpiry e => Sys2Proof.Machine.execDebounceExpiry e s
  | .receiverLock k => Sys2Proof.Machine.execReceiverLock k s
  | .receiverLockLoss k => Sys2Proof.Machine.execReceiverLockLoss k s
  | .stallExpiry k => Sys2Proof.Machine.execStallExpiry k s
  | .acquireExpiry k => Sys2Proof.Machine.execAcquireExpiry k s
  | .retryExpiry k => Sys2Proof.Machine.execRetryExpiry k s
  | .fieldCall k => Sys2Proof.Machine.execFieldCall k s
  | .fieldWrite k x => Sys2Proof.Machine.execFieldWrite k x s
  | .fieldRead k => Sys2Proof.Machine.execFieldRead k s
  | .activeReferenceSample k x => Sys2Proof.Machine.execActiveReferenceSample k x s
  | .housePresence => Sys2Proof.Machine.execHousePresence s
  | .houseAbsence => Sys2Proof.Machine.execHouseAbsence s
  | .houseSettleExpiry => Sys2Proof.Machine.execHouseSettleExpiry s
  | .fieldSettleExpiry => Sys2Proof.Machine.execFieldSettleExpiry s
  | .switchDeadlineExpiry => Sys2Proof.Machine.execSwitchDeadlineExpiry s
  | .clockPeriod p sdi => Sys2Proof.Machine.execClockPeriod p sdi s

end Sys2Proof.Machine
end

