-- ==== Sys2Proof/Machine/Step.lean ====
section
/-! DEFINITION. One step of the block: the command at the front of the queue. -/

namespace Sys2Proof.Machine

/-- A step: the command at the front of the queue is taken off it and executed. On an empty queue no event arrives and one
period of the crystal passes, which only the stall timer of an active reference line counts (log entry 5). -/
def step (s : State) : Host.Outcome State Fault Refusal :=
  match s.pending with
  | [] => .next s.crystalPeriod
  | c :: rest => exec c { s with pending := rest }

/-- The command that a table word spells put in front of the queue; none does, since the table gives no bits (log entry
19). -/
def State.withFetchWord (s : State) (nbits w : Nat) : State :=
  match Sys2Proof.decodeTableWord nbits w with
  | some c => { s with pending := c :: s.pending }
  | none => s

end Sys2Proof.Machine
end

