-- ==== Sys2Proof/Safety.lean ====
section
/-! DEFINITION. What the rules say of every state the part can reach, unit by unit: the invariants that the statements are
about. -/

namespace Sys2Proof.Machine

/-! ### Requests and refusals -/

/-- The port that a request is asked from; none for a command that is no request. -/
def askingPort : Instr → Option Port
  | .nop p => some p
  | .queryPart p => some p
  | .fetchNotices p _ => some p
  | .claimAuthority p => some p
  | .releaseAuthority p => some p
  | .seizeAuthority p => some p
  | .setSeizeRight p _ _ => some p
  | .setWindow p _ _ _ _ _ _ _ _ => some p
  | .readWindow p _ _ => some p
  | .routeAdd p _ _ _ _ => some p
  | .routeLevel p _ _ _ => some p
  | .routeRemove p _ _ => some p
  | .routeClear p _ _ => some p
  | .readRoutes p _ => some p
  | .setDest p _ _ _ => some p
  | .setTrim p _ _ => some p
  | .readLevels p _ _ => some p
  | .talkRequest p _ _ => some p
  | .talkRelease p _ => some p
  | .setFoldback p _ _ _ _ _ _ _ _ => some p
  | .readFoldback p _ => some p
  | .talkGroup p _ _ => some p
  | .releaseGroup p _ => some p
  | .setGroup p _ _ => some p
  | .identify p _ => some p
  | .readAccessory p _ => some p
  | .setProfile p _ _ _ _ _ => some p
  | .fieldStart p _ => some p
  | .fieldStop p _ => some p
  | .fieldPark p _ => some p
  | .readField p _ => some p
  | .setFieldPlan p _ _ _ _ _ => some p
  | .selectReference p _ => some p
  | .readReference p => some p
  | _ => none

/-- The twelve refusal outcomes, DENIED to FRAMING (R7). -/
def refusals : List ReplyCode :=
  [.denied, .protectedEntry, .noAuthority, .held, .busy, .full, .absent, .self, .range, .state, .unknown, .framing]

/-! ### Control ports -/

/-- A port's queue never holds more than 16 records (R15); an incomplete byte has at most 7 bits (R1); SDO is released while
IDLE (R1); a port held in reset is IDLE with its slot and queue empty and its overrun flag clear (R19). -/
def PortRec.Sound (r : PortRec) : Prop :=
  r.queue.length ≤ Config.queueCapacity ∧ (∀ t, r.txn = some t → t.bits.length < 8) ∧ (r.txn = none → r.sdo = none) ∧
    (r.held = true → r = PortRec.assertReset)

/-- Every port is sound, and while NRESET is asserted every port stands as chip reset left it (R21). -/
def PortsSound (s : State) : Prop :=
  ∀ p, (s.port p).Sound ∧ (s.nresetLow = true → s.port p = { PortRec.reset with held := (s.port p).held })

/-! ### What a port held in reset does not own -/

/-- The records of an earpiece: the holder's and the waiting ones. -/
def Foldback.records (f : Foldback) : List TalkRec := f.holder.toList ++ f.queue

/-- A port held in port reset holds no authority (R39), has created no ACTIVE MOMENTARY entry (R59) and has no talk record
(R115). -/
def HeldOwnsNothing (s : State) : Prop :=
  ∀ p, (s.port p).held = true →
    s.access.holder ≠ some p ∧ (∀ d, ∀ y ∈ (s.dest d).list, y.momentaryOf p = false) ∧
      ∀ e, ∀ t ∈ (s.fb e).records, t.port ≠ p

/-! ### The route store -/

/-- An entry's target follows from its state and level code (R45); its gain word lies within 0 to 65,536 (R43); a FADING_OUT
entry in a list has not reached 0 (R54). -/
def Entry.Sound (y : Entry) : Prop :=
  y.ramp.target = y.goal ∧ y.ramp.cur ≤ Config.unity ∧ y.finished = false

/-- A list of destination `d`: at most 12 entries, no source twice (R42), no panel's own source below 40 (R49), no field return's
own source (R50). -/
def ListSound (d : Dest) (l : List Entry) : Prop :=
  l.length ≤ Config.listCapacity ∧ (l.map (·.source)).Nodup ∧
    ∀ y ∈ l, y.Sound ∧ (ownSource d = some y.source → d.val < 24 ∧ 40 ≤ y.level)

/-- Every list is sound, and the free count plus the entries in all lists is 384 (R44). -/
def RouteStore.Sound (r : RouteStore) : Prop :=
  r.free + r.used = Config.poolSize ∧ (∀ d, ListSound d (r.dests.get d).list) ∧
    ∀ x, 16462 ≤ (r.trims.get x).cur ∧ (r.trims.get x).cur ≤ 260899 ∧
      16462 ≤ (r.trims.get x).target ∧ (r.trims.get x).target ≤ 260899

/-! ### The mix engine -/

/-- A peak never exceeds 8,388,608 (R83); a panel output lies in the 24-bit range (R80); a gate's gain word and its target never
exceed 65,536 (R68, R82). -/
def MixEngine.Sound (m : MixEngine) : Prop :=
  (∀ d, (m.meters.get d).peak ≤ 8388608) ∧ (∀ n, sampleMin ≤ m.panelOut.get n ∧ m.panelOut.get n ≤ sampleMax) ∧
    ∀ e, (m.gates.get e).cur ≤ Config.unity ∧ (m.gates.get e).target ≤ Config.unity

/-! ### The foldback controller -/

/-- The waiting queue stands in order of priority and of arrival (R93). -/
def QueueOrdered (q : List TalkRec) : Prop := q.Pairwise fun a b => a.before b = true

/-- What the foldback rules say of a record in every state: R89's table, R88, R90's last paragraph, R91, R92 and R93. -/
def Foldback.Sound (f : Foldback) : Prop :=
  (f.holder.isSome = true ↔ f.state = .lead ∨ f.state = .talk) ∧
  (f.holder = none → f.queue = []) ∧
  f.queue.length ≤ Config.waitingCapacity ∧
  QueueOrdered f.records ∧
  (f.records.map (·.port)).Nodup ∧
  (f.stateTimer.isSome = true ↔ f.state = .lead ∨ f.state = .hold) ∧
  (f.limitTimer.isSome = true → f.holder.isSome = true) ∧
  f.nominal ≤ f.duck ∧
  f.bed.target = f.bedTarget f.state ∧
  (f.state = .talk → f.slot.target = gain f.interrupt ∧ f.slotSource = f.holder.map (·.talker)) ∧
  (f.state ≠ .talk → f.slot.target = 0) ∧
  f.bed.cur ≤ Config.unity ∧ f.slot.cur ≤ Config.unity

/-- Every foldback record is sound, and every record's arrival number has been given out (R92). -/
def FoldbackUnit.Sound (u : FoldbackUnit) : Prop :=
  ∀ e, (u.recs.get e).Sound ∧ ∀ t ∈ (u.recs.get e).records, t.arrival < u.arrivals

/-! ### The identification unit -/

/-- What the identification rules say of a record in every state (R117, R118, R119, R120, R121, R123, R127). -/
def Accessory.Sound (a : Accessory) (profiles : Vector Profile 8) : Prop :=
  (a.settle.isSome = true ↔ a.state = .probing) ∧
  a.readings.length ≤ 3 ∧
  (a.state ≠ .probing → a.readings = []) ∧
  (a.debounce.isSome = true → a.state = .present ∨ a.state = .absent) ∧
  (a.state = .present ∨ a.state = .absent → (a.debounce = none ↔ a.sense.get 3 = a.rest)) ∧
  (a.state = .probing → a.bias = some (Fin.ofNat 4 a.readings.length)) ∧
  (a.state = .present ∨ a.state = .absent → a.bias = some 3) ∧
  (a.state = .present → a.id ≠ 0xFFF ∧ a.profile = lookup profiles a.id) ∧
  (a.state = .absent → a.id = 0xFFF ∧ a.profile = 0)

/-- Every accessory record is sound, profile 0 is valid (R127), and UNKNOWN is the state exactly while NRESET is asserted
(R118). -/
def AccessoriesSound (s : State) : Prop :=
  (s.ident.profiles.get 0).valid = true ∧
    ∀ e, (s.acc e).Sound s.ident.profiles ∧ ((s.acc e).state = .unknown ↔ s.nresetLow = true) ∧
      ((s.acc e).state = .present → (s.gate e).target = Config.unity) ∧
      ((s.acc e).state ≠ .present → (s.gate e).target = 0 ∧ (s.gate e).cur = 0)

/-! ### The field line unit -/

/-- What the field line rules say of a record in every state: R133's table, R141, R147, R148, R149. The last clause says that a
put-back can always be served (R147). -/
def LineRec.Sound (l : LineRec) : Prop :=
  (l.timer = none ↔ l.state = .idle ∨ l.state = .parked) ∧
  (l.receiving = false → l.buffer = []) ∧
  (l.state ≠ .locked → l.replay = [] ∧ l.quietRun = 0 ∧ l.delivered = none) ∧
  (l.state = .centering → l.fill < l.size / 2) ∧
  (l.state = .locked → l.size / 4 < l.fill ∧ l.fill < 3 * (l.size / 4)) ∧
  1 ≤ l.acquire ∧ l.acquire ≤ 60 ∧ l.quietRun ≤ Config.quietRunFull ∧
  l.quietSlips ≤ Config.slipCountMax ∧ l.forcedSlips ≤ Config.slipCountMax ∧
  l.replay.length ≤ Config.replayCapacity ∧
  (l.state = .locked → min l.quietRun Config.replayCapacity ≤ l.replay.length ∧
    l.size / 2 ≤ l.fill + 7 * l.slipUnit + l.replay.length)

/-- The sum of the eight depths (R151). -/
def FieldUnit.totalDepth (f : FieldUnit) : Nat := ((List.finRange 8).map fun k => (f.lines.get k).size).sum

/-- Every line record is sound, and the depths sum to at most 8,192 (R151). -/
def FieldUnit.Sound (f : FieldUnit) : Prop := f.totalDepth ≤ Config.depthBudget ∧ ∀ k, (f.lines.get k).Sound

/-! ### The reference unit -/

/-- What the reference rules say of the record in every state: the table of R158 and its last paragraph, R156, R157. -/
def ReferenceSound (s : State) : Prop :=
  let r := s.reference
  (r.state = .steady → r.selected = r.active ∧ r.deadline = none) ∧
  (r.state = .switching → r.selected ≠ r.active ∧ r.stability r.selected ≠ .stable ∧ r.deadline ≠ none) ∧
  (r.state = .holdover →
    r.selected ≠ r.active ∧ r.active = .crystal ∧ r.stability r.selected ≠ .stable ∧ r.deadline = none) ∧
  r.stability r.active = .stable ∧
  (∀ k, r.active = .field k → r.tracked = some k ∧ (s.line k).state = .locked) ∧
  (r.tracked = none → r.field = .absent) ∧
  (∀ k, r.tracked = some k → ((s.line k).state = .locked ↔ r.field ≠ .absent)) ∧
  (r.houseSettle.isSome = true ↔ r.house = .settling) ∧
  (r.fieldSettle.isSome = true ↔ r.field = .settling) ∧
  (s.nresetLow = true → r = RefUnit.reset r.houseInput) ∧
  (s.nresetLow = false → (r.houseInput = true ↔ r.house ≠ .absent))

/-- While NRESET is asserted no line is up (R131). -/
def LinesDownInReset (s : State) : Prop := s.nresetLow = true → ∀ k, (s.line k).state = .idle

end Sys2Proof.Machine
end

