-- ==== Sys2Proof/Certificates/Slice0/Obligations.lean ====
section
/-! DEFINITION. The statements for the provers, chapter by chapter. Vocabulary: `s.spelled p i = some tag` says that the inbound
bytes of port `p` are a well-formed frame of the request `i` with that tag; `(s.endTransaction p)` is `s` with the
transaction of `p` ended, and `.reply p tag a` puts the answer `a` in the reply slot of `p`. -/

open Sys2Proof Sys2Proof.Machine

/-! ### The step and the whole part -/

/-- A step takes the command at the front of the queue and executes it on the rest (95, opening). On an empty queue one
crystal period passes: that is the model's choice (log entry 5), after R150. -/
def Obligations.StepTakesTheFrontCommand : Prop :=
  ∀ s : State,
    (∀ c : Instr, step { s with pending := c :: s.pending } = exec c s) ∧
    (s.pending = [] → ∀ k : Line, s.reference.active = .field k → (s.line k).receiving = true →
      step s = .next (s.putLine k { s.line k with timer := (s.line k).timer.map (· - 1) })) ∧
    (s.pending = [] → (∀ k : Line, s.reference.active = .field k → (s.line k).receiving = false) → step s = .next s)

/-- No command stops the part: where the event a command names is ignored or cannot occur, the command still answers a next
state, which is the model's choice (log entry 2). No command touches the queue of the commands that wait; that CHIP_RESET too
leaves it is the model's choice (log entry 18). -/
def Obligations.EveryCommandCompletes : Prop :=
  ∀ (c : Instr) (s : State), ∃ t, exec c s = .next t ∧ t.pending = s.pending

/-- The state after reset meets every invariant of Sys2Proof.Machine (Safety.lean), and what R21 names: every window disabled,
authority free, a probe on every earpiece, HOLDOVER on CRYSTAL with HOUSE selected. That `State.reset` stands after the
release of NRESET is the model's (log entry 1). -/
def Obligations.ResetMeetsEveryInvariant : Prop :=
  let s := State.reset
  PortsSound s ∧ HeldOwnsNothing s ∧ s.route.Sound ∧ s.mix.Sound ∧ s.foldback.Sound ∧ AccessoriesSound s ∧
    s.field.Sound ∧ ReferenceSound s ∧ LinesDownInReset s ∧
    (∀ p w, (s.access.window p w).enabled = false) ∧ s.access.holder = none ∧ (∀ p, s.access.seize.get p = false) ∧
    (∀ e, (s.acc e).state = .probing ∧ (s.acc e).bias = some 0 ∧ (s.acc e).settle = some 96) ∧
    s.reference.state = .holdover ∧ s.reference.active = .crystal ∧ s.reference.selected = .house

/-- Chip reset gives every record the value its table names, whatever stood there (R21, R23, R33, R40, R44, R61, R68, R83,
R87, R112, R117, R127, R131, R158); the pins and the waiting commands are as before. The release of NRESET then starts a probe
on every earpiece and reads the house input (R119, R156). That the waiting commands survive is the model's (log entry 18). -/
def Obligations.ChipResetClearsThePart : Prop :=
  (∀ s : State, ∃ t, exec .chipReset s = .next t ∧ t.nresetLow = true ∧
    (∀ p, t.port p = { txn := none, sdo := none, slot := none, queue := [], overrun := false, held := (s.port p).held }) ∧
    (∀ p w, t.access.window p w = { enabled := false, base := 0, mask := 0, priority := 0, listenOnly := false, tag := 0 }) ∧
    (∀ p, t.access.seize.get p = false) ∧ t.access.holder = none ∧
    (∀ d, t.dest d = { master := 0, fade := 2, list := [] }) ∧ t.route.free = 384 ∧
    (∀ x, (t.trim x).cur = 65536 ∧ (t.trim x).target = 65536) ∧
    (∀ d, t.meter d = { peak := 0, clip := false }) ∧ (∀ e, (t.gate e).cur = 0 ∧ (t.gate e).target = 0) ∧
    (∀ e, (t.fb e).bedSource = none ∧ (t.fb e).nominal = 0 ∧ (t.fb e).duck = 20 ∧ (t.fb e).interrupt = 0 ∧
      (t.fb e).lead = 10 ∧ (t.fb e).hold = 50 ∧ (t.fb e).limit = 0 ∧ (t.fb e).state = .idle ∧ (t.fb e).holder = none ∧
      (t.fb e).queue = [] ∧ (t.fb e).stateTimer = none ∧ (t.fb e).limitTimer = none ∧ (t.fb e).bed.target = 0 ∧
      (t.fb e).bed.cur = 0 ∧ (t.fb e).slotSource = none ∧ (t.fb e).slot.target = 0 ∧ (t.fb e).slot.cur = 0) ∧
    (∀ g, t.foldback.groups.get g = 0) ∧
    (∀ e, (t.acc e).state = .unknown ∧ (t.acc e).id = 0xFFF ∧ (t.acc e).rest = 7 ∧ (t.acc e).profile = 0 ∧
      (t.acc e).bias = none ∧ (t.acc e).readings = [] ∧ (t.acc e).settle = none ∧ (t.acc e).debounce = none ∧
      (t.acc e).sense = (s.acc e).sense) ∧
    (∀ i, t.ident.profiles.get i = { valid := decide (i = 0), matchId := 0, ceiling := 12, ear := .mono }) ∧
    (∀ k, (t.line k).state = .idle ∧ (t.line k).depth = 2 ∧ (t.line k).quiet = 100 ∧ (t.line k).autoWake = false ∧
      (t.line k).acquire = 10 ∧ (t.line k).buffer = [] ∧ (t.line k).replay = [] ∧ (t.line k).quietRun = 0 ∧
      (t.line k).quietSlips = 0 ∧ (t.line k).forcedSlips = 0 ∧ (t.line k).lastCause = .none ∧ (t.line k).timer = none ∧
      (t.line k).link = none) ∧
    t.reference = { selected := .house, active := .crystal, state := .holdover, tracked := none, deadline := none,
                    house := .absent, houseSettle := none, field := .absent, fieldSettle := none,
                    houseInput := s.reference.houseInput } ∧
    t.pending = s.pending) ∧
  ∀ s : State, s.nresetLow = true →
    exec .nresetRelease s = .next
      { s with
        nresetLow := false,
        ident := { s.ident with accs := remap s.ident.accs fun _ a =>
          { a with state := .probing, readings := [], debounce := none, bias := some 0, settle := some 96 } },
        reference :=
          if s.reference.houseInput = true ∧ s.reference.house = .absent then
            { s.reference with house := .settling, houseSettle := some 4800 }
          else s.reference }

/-- The assertion of PRST clears the port's own state and holds it (R19), frees its authority (R39), fades its ACTIVE
MOMENTARY entries and returns to the pool those that reach 0 at once (R59, R54, R44), and withdraws its talk records as its
own releases would (R115). Each holder that is withdrawn before a waiting record raises one TALK_GRANTED notice, to that
record's port; these deposits, in ascending order of the earpieces (the model's order, log entry 10), are all that reaches
another port: its transaction, slot and hold are kept, and its queue and overrun flag go on (R20). Windows, seize rights,
settings, groups, trims, meters, gates, field lines, probes, profiles and the reference are kept. PRST asserted on a port
already held is no event (log entry 2). The release ends the hold alone (R19). -/
def Obligations.PortResetReachesEveryOwner : Prop :=
  (∀ (s : State) (p : Port), (s.port p).held = false →
    ∃ t, exec (.prstAssert p) s = .next t ∧
      t.port p = { txn := none, sdo := none, slot := none, queue := [], overrun := false, held := true } ∧
      (∀ q, q ≠ p → (t.port q).txn = (s.port q).txn ∧ (t.port q).sdo = (s.port q).sdo ∧ (t.port q).slot = (s.port q).slot ∧
        (t.port q).held = (s.port q).held) ∧
      (let granted : List Post := (List.finRange 16).flatMap fun e =>
          match (s.fb e).holder, (s.fb e).queue with
          | some h, x :: _ =>
            if h.port = p then
              [(x.port, { kind := .talkGranted, subject := BitVec.ofNat 8 e.val, d0 := BitVec.ofNat 8 x.talker.val })]
            else []
          | _, _ => []
        ∀ q, q ≠ p → t.port q = (s.postAll granted).port q) ∧
      t.access = { s.access with holder := if s.access.holder = some p then none else s.access.holder } ∧
      (∀ d, (t.dest d).master = (s.dest d).master ∧ (t.dest d).fade = (s.dest d).fade ∧
        (t.dest d).list = (((s.dest d).list.map fun y =>
          if y.state = .active ∧ y.mode = .momentary ∧ y.creator = p then
            { y with state := .fadingOut, ramp := y.ramp.aim 0 (fadeFrames (s.dest d).fade) }
          else y).filter fun y => decide (¬ (y.state = .fadingOut ∧ y.ramp.cur = 0)))) ∧
      t.route.free + t.route.used = s.route.free + s.route.used ∧ t.route.trims = s.route.trims ∧
      (∀ e, t.fb e =
        match (s.fb e).standing p with
        | none => s.fb e
        | some _ => ((s.fb e).withdraw e (s.fadeLength (earDest e)) p).1) ∧
      t.foldback.groups = s.foldback.groups ∧ t.foldback.arrivals = s.foldback.arrivals ∧ t.mix = s.mix ∧
      t.ident = s.ident ∧ t.field = s.field ∧ t.reference = s.reference ∧ t.nresetLow = s.nresetLow ∧
      t.pending = s.pending) ∧
  (∀ (s : State) (p : Port), (s.port p).held = true → exec (.prstAssert p) s = .next s) ∧
  ∀ (s : State) (p : Port), exec (.prstRelease p) s = .next (s.putPort p { s.port p with held := false })

/-! ### Control ports (01) -/

/-- At a SEL fall on an idle port out of reset the outbound frame is frozen: the reply in the slot with a status byte of
PENDING in bit 7, OVERRUN in bit 6, AUTHORITY in bit 5 and the outcome code below (R2, R167), the sixteen outcomes having the
codes 0 to 15 (09, section 9.4); or a NONE reply with tag 0, code 0 and length 0. A fall while the port or the part is held in
reset starts nothing (R1). R1 and R2 do not say what the data output carries between the fall and the first clock period: that
it stays as it was is the model's choice (log entry 7). -/
def Obligations.TransactionFreezesItsFrame : Prop :=
  ∀ (s : State) (p : Port),
    let r := s.port p
    let status := fun code : Nat => BitVec.ofNat 8
      (128 * (decide (r.queue ≠ [])).toNat + 64 * r.overrun.toNat + 32 * (decide (s.access.holder = some p)).toNat + code)
    let frame : List Byte :=
      match r.slot with
      | none => [0, status 0, 0]
      | some a => a.tag :: status a.outcome.code :: BitVec.ofNat 8 a.results.length :: a.results
    (s.nresetLow = false → r.held = false → r.txn = none →
      exec (.transactionBegin p) s =
        .next (s.putPort p { r with txn := some { bytes := [], bits := [], frame := frame } })) ∧
    (s.nresetLow = true ∨ r.held = true → exec (.transactionBegin p) s = .next s) ∧
    ([.none, .ok, .accepted, .queued, .denied, .protectedEntry, .noAuthority, .held, .busy, .full, .absent, .self, .range,
      .state, .unknown, .framing] : List ReplyCode).map ReplyCode.code = List.range 16 ∧
    ∀ o : ReplyCode, o.code < 16

/-- In a transaction each clock period shifts one bit in, the eighth completing an inbound byte, most significant bit first,
and one bit out of the frozen frame, which reads 0x00 beyond its end (R1, R2); an idle port ignores the clock (R1). Any string
of bytes clocked in therefore stands whole behind the bytes received before, and nothing else of the state changes but the bit
on the port's data output, whose holding between clock periods is the model's (log entry 7). -/
def Obligations.ClockPeriodsShiftBytes : Prop :=
  (∀ (s : State) (p : Port) (sdi : Bool),
    ((s.port p).txn = none → exec (.clockPeriod p sdi) s = .next s) ∧
    ∀ t : Transaction, (s.port p).txn = some t →
      let n := 8 * t.bytes.length + t.bits.length
      ∃ t', exec (.clockPeriod p sdi) s = .next (s.putPort p { s.port p with
          txn := some t', sdo := some ((t.frame.getD (n / 8) 0).getLsbD (7 - n % 8)) }) ∧
        t'.frame = t.frame ∧
        (t.bits.length ≠ 7 → t'.bytes = t.bytes ∧ t'.bits = t.bits ++ [sdi]) ∧
        (∀ b0 b1 b2 b3 b4 b5 b6, t.bits = [b0, b1, b2, b3, b4, b5, b6] → t'.bits = [] ∧
          ∃ b : Byte, t'.bytes = t.bytes ++ [b] ∧
            [b.getLsbD 7, b.getLsbD 6, b.getLsbD 5, b.getLsbD 4, b.getLsbD 3, b.getLsbD 2, b.getLsbD 1, b.getLsbD 0] =
              [b0, b1, b2, b3, b4, b5, b6, sdi])) ∧
  ∀ (s : State) (p : Port) (t : Transaction) (bs : List Byte), (s.port p).txn = some t → t.bits = [] →
    ∃ sdo, (bs.flatMap fun b => (List.range 8).map fun j => b.getLsbD (7 - j)).foldl
        (fun o b => match o with
          | .next u => exec (.clockPeriod p b) u
          | o => o) (Host.Outcome.next s) =
      .next (s.putPort p { s.port p with txn := some { t with bytes := t.bytes ++ bs }, sdo := sdo })

/-- Requests read back what was written: the frame that encodes a request, with any filler that keeps it within 60 parameters,
spells exactly that request, and spells no other request of the same port (R3, R4; 09, section 9.3). -/
def Obligations.RequestFramesReadBack : Prop :=
  ∀ (i j : Instr) (tag tag' : Byte) (filler frame : List Byte) (code : Byte) (ps : List Byte),
    requestOf i = some (code, ps) → ps.length + filler.length ≤ 60 → encodeFrame tag i filler = some frame →
    spells frame [] i = some tag ∧
      (spells frame [] j = some tag' → askingPort j = askingPort i → j = i ∧ tag' = tag)

/-- The framing test at a SEL rise, in its order: PARTIAL, SHORT, LENGTH, COUNT, the tag being the first byte clocked in or 0
(R3); a frame that passes has at most 63 bytes. A known code with fewer parameters than it uses is then answered PARAMS
(R4). -/
def Obligations.FramingTestRunsInOrder : Prop :=
  ∀ (s : State) (p : Port) (t : Transaction), (s.port p).txn = some t →
    let answer : Byte → Host.Outcome State Fault Refusal := fun reason =>
      .next ((s.endTransaction p).reply p (t.bytes.headD 0) { outcome := .framing, results := [reason] })
    (t.bits ≠ [] → exec (.framing p) s = answer 1) ∧
    (t.bits = [] → t.bytes.length < 3 → exec (.framing p) s = answer 2) ∧
    ∀ (tag code len : Byte) (params : List Byte), t.bits = [] → t.bytes = tag :: code :: len :: params →
      (60 < len.toNat → exec (.framing p) s = answer 3) ∧
      (len.toNat ≤ 60 → t.bytes.length ≠ 3 + len.toNat → exec (.framing p) s = answer 4) ∧
      (len.toNat ≤ 60 → t.bytes.length = 3 + len.toNat → t.bytes.length ≤ 63 ∧
        ∀ n, paramCount code = some n → params.length < n → exec (.framing p) s = answer 5)

/-- A well-formed frame whose code is not one of the thirty-four of 09, section 9.3, is answered UNKNOWN with the request tag
and the code as received, and reaches no block (R5). -/
def Obligations.UnknownCodesAreAnswered : Prop :=
  ∀ (s : State) (p : Port) (t : Transaction) (tag code len : Byte) (params : List Byte), (s.port p).txn = some t →
    t.bits = [] → t.bytes = tag :: code :: len :: params → len.toNat ≤ 60 → params.length = len.toNat →
    code ∉ ([0x00, 0x01, 0x02, 0x10, 0x11, 0x12, 0x13, 0x14, 0x15, 0x20, 0x21, 0x22, 0x23, 0x24, 0x25, 0x26, 0x27, 0x30,
      0x31, 0x32, 0x33, 0x34, 0x35, 0x36, 0x40, 0x41, 0x42, 0x50, 0x51, 0x52, 0x53, 0x54, 0x60, 0x61] : List Byte) →
    exec (.unknown p) s = .next ((s.endTransaction p).reply p tag { outcome := .unknown, results := [code] })

/-- NOP is answered OK with nothing, whatever parameters it is given, and QUERY_PART with the part code, the revision and the
asking port; neither changes a record (R11, R12). -/
def Obligations.NopAndQueryPartAnswer : Prop :=
  ∀ (s : State) (p : Port) (t : Transaction) (tag len : Byte) (params : List Byte),
    (s.port p).txn = some t → t.bits = [] → len.toNat ≤ 60 → params.length = len.toNat →
    (t.bytes = tag :: 0x00 :: len :: params →
      exec (.nop p) s = .next ((s.endTransaction p).reply p tag { outcome := .ok, results := [] })) ∧
    (t.bytes = tag :: 0x01 :: len :: params →
      exec (.queryPart p) s =
        .next ((s.endTransaction p).reply p tag { outcome := .ok, results := [0x4E, 0x48, 0x01, BitVec.ofNat 8 p.val] }))

/-- FETCH_NOTICES moves the oldest n records from the queue into the reply, six bytes each, n being the lesser of the clamped
maximum and the queue's length; it clears the overrun flag exactly where it leaves the queue empty (R10, R18). The nine notice
kinds have the codes 1 to 9 (09, section 9.2). -/
def Obligations.FetchNoticesDrainsInOrder : Prop :=
  ([.talkGranted, .talkPreempted, .talkEnded, .accessory, .fieldState, .fieldCall, .reference, .authorityLost,
    .clip] : List NoticeKind).map NoticeKind.code = [1, 2, 3, 4, 5, 6, 7, 8, 9] ∧
  ∀ (s : State) (p : Port) (max tag : Byte), s.spelled p (.fetchNotices p max) = some tag →
    ∀ taken left : List Notice, (s.port p).queue = taken ++ left →
      taken.length = min (Nat.max 1 (Nat.min 10 max.toNat)) (s.port p).queue.length →
      exec (.fetchNotices p max) s = .next (s.putPort p
        { txn := none, sdo := none, queue := left, held := (s.port p).held,
          overrun := if left = [] then false else (s.port p).overrun,
          slot := some { tag := tag, outcome := .ok, results := taken.flatMap fun n =>
            [n.kind.code, n.subject, n.d0, n.d1, n.d2, n.d3] } }) ∧
      (taken.flatMap Notice.bytes).length = 6 * taken.length

/-- A deposit appends at the tail while the queue holds fewer than 16 records, otherwise it discards the notice and sets the
overrun flag; a port held in reset loses it silently (R15), and none is made while NRESET is asserted (R21). A queue is never
shortened and its records are never reordered by deposits (R17). ATN is asserted exactly while the queue is not empty
(R16). -/
def Obligations.DepositRespectsCapacity : Prop :=
  (∀ (s : State) (p : Port) (n : Notice), s.nresetLow = false →
    ((s.port p).held = true → s.post (p, n) = s) ∧
    ((s.port p).held = false → (s.port p).queue.length < 16 →
      s.post (p, n) = s.putPort p { s.port p with queue := (s.port p).queue ++ [n] }) ∧
    ((s.port p).held = false → 16 ≤ (s.port p).queue.length →
      s.post (p, n) = s.putPort p { s.port p with overrun := true })) ∧
  (∀ (s : State) (x : Post), s.nresetLow = true → s.post x = s) ∧
  (∀ (s : State) (xs : List Post) (p : Port), ∃ added, ((s.postAll xs).port p).queue = (s.port p).queue ++ added ∧
    added.Sublist ((xs.filter fun x => decide (x.1 = p)).map (·.2))) ∧
  ∀ r : PortRec, r.atn = true ↔ r.queue ≠ []

/-- Each port's transactions are its own (R1, R20): a request of port `p`, whatever it does, leaves the transaction, data
output, reply slot and hold of every other port as they were, and only appends to its queue; where it is taken, the port's own
transaction has ended with its data output released and the slot holds a reply with the request's tag (R4). Where the port's
bytes do not spell the request the event does not occur and nothing changes (log entries 2 and 3). -/
def Obligations.PortsKeepApart : Prop :=
  ∀ (i : Instr) (p : Port) (s t : State), askingPort i = some p → exec i s = .next t →
    (∀ q, q ≠ p → (t.port q).txn = (s.port q).txn ∧ (t.port q).sdo = (s.port q).sdo ∧ (t.port q).slot = (s.port q).slot ∧
      (t.port q).held = (s.port q).held ∧ ∃ added, (t.port q).queue = (s.port q).queue ++ added) ∧
    (t.port p).held = (s.port p).held ∧ (s.spelled p i = none → t = s) ∧
    ∀ tag, s.spelled p i = some tag →
      (t.port p).txn = none ∧ (t.port p).sdo = none ∧
        ∃ a : Answer, a.outcome ≠ .none ∧
          (t.port p).slot = some { tag := tag, outcome := a.outcome, results := a.results }

/-- A request answered with one of the twelve refusal outcomes leaves every record of the part as it was, but for the
transaction that ends and the reply slot that receives the refusal (R7). -/
def Obligations.RefusalsChangeNothing : Prop :=
  ∀ (i : Instr) (p : Port) (s t : State) (tag : Byte) (r : Reply), askingPort i = some p → s.spelled p i = some tag →
    exec i s = .next t → (t.port p).slot = some r → r.outcome ∈ refusals →
    t = (s.endTransaction p).reply p tag { outcome := r.outcome, results := r.results }

/-- A parameter that names something outside its class is answered RANGE (R9), before the window check and every state check
of its owner (R27), and after the authority check (R34). That the reply has no result is the model's reading (log entry
11). -/
def Obligations.NamesOutOfClassAreRefused : Prop :=
  ∀ (i : Instr) (p : Port) (s : State) (tag : Byte), askingPort i = some p → s.spelled p i = some tag →
    (match i with
      | .readWindow _ port window => 4 ≤ port.toNat ∨ 2 ≤ window.toNat
      | .setSeizeRight _ port _ => s.access.holder = some p ∧ 4 ≤ port.toNat
      | .setWindow _ port window _ _ _ _ _ _ => s.access.holder = some p ∧ (4 ≤ port.toNat ∨ 2 ≤ window.toNat)
      | .routeAdd _ dest source _ mode => 48 ≤ dest.toNat ∨ 40 ≤ source.toNat ∨ 2 ≤ mode.toNat
      | .routeLevel _ dest source _ => 48 ≤ dest.toNat ∨ 40 ≤ source.toNat
      | .routeRemove _ dest source => 48 ≤ dest.toNat ∨ 40 ≤ source.toNat
      | .routeClear _ dest filter => 48 ≤ dest.toNat ∨ (4 ≤ filter.toNat ∧ filter.toNat < 255)
      | .readRoutes _ dest => 48 ≤ dest.toNat
      | .setDest _ dest _ _ => 48 ≤ dest.toNat
      | .setTrim _ source _ => s.access.holder = some p ∧ 40 ≤ source.toNat
      | .readLevels _ first _ => 48 ≤ first.toNat
      | .talkRequest _ earpiece talker => 16 ≤ earpiece.toNat ∨ 32 ≤ talker.toNat
      | .talkRelease _ earpiece => 16 ≤ earpiece.toNat
      | .setFoldback _ earpiece bed _ _ _ _ _ _ =>
        16 ≤ earpiece.toNat ∨ bed.toNat < 32 ∨ (40 ≤ bed.toNat ∧ bed.toNat < 255)
      | .readFoldback _ earpiece => 16 ≤ earpiece.toNat
      | .talkGroup _ group talker => 8 ≤ group.toNat ∨ 32 ≤ talker.toNat
      | .releaseGroup _ group => 8 ≤ group.toNat
      | .setGroup _ group _ => s.access.holder = some p ∧ 8 ≤ group.toNat
      | .identify _ earpiece => 16 ≤ earpiece.toNat
      | .readAccessory _ earpiece => 16 ≤ earpiece.toNat
      | .setProfile _ index _ _ _ ear => s.access.holder = some p ∧ (8 ≤ index.toNat ∨ 4 ≤ ear.toNat)
      | .fieldStart _ line => 8 ≤ line.toNat
      | .fieldStop _ line => 8 ≤ line.toNat
      | .fieldPark _ line => 8 ≤ line.toNat
      | .readField _ line => 8 ≤ line.toNat
      | .setFieldPlan _ line _ _ _ _ => s.access.holder = some p ∧ 8 ≤ line.toNat
      | .selectReference _ choice =>
        s.access.holder = some p ∧ ((2 ≤ choice.toNat ∧ choice.toNat < 16) ∨ 24 ≤ choice.toNat)
      | _ => False) →
    exec i s = .next ((s.endTransaction p).reply p tag { outcome := .range, results := [] })

/-! ### Access windows and configuration authority (02) -/

/-- CLAIM_AUTHORITY by what the authority record holds: free, the asker's, another port's (R35). RELEASE_AUTHORITY from the
holder and from any other port (R36). Neither raises a notice. SEIZE_AUTHORITY without the seize right is DENIED with
NO_SEIZE_RIGHT; with it the asker becomes holder, and one AUTHORITY_LOST notice goes to a former holder that was another port,
and none otherwise (R37). That the replies without a stated result have length 0 is the model's reading (log entry 11). -/
def Obligations.AuthorityChangesHands : Prop :=
  ∀ (s : State) (p : Port) (tag : Byte),
    let u := s.endTransaction p
    let v := { u with access := { u.access with holder := some p } }
    (s.spelled p (.claimAuthority p) = some tag →
      (s.access.holder = none → exec (.claimAuthority p) s = .next (v.reply p tag { outcome := .ok, results := [] })) ∧
      (s.access.holder = some p → exec (.claimAuthority p) s = .next (u.reply p tag { outcome := .ok, results := [] })) ∧
      ∀ h, h ≠ p → s.access.holder = some h → exec (.claimAuthority p) s =
        .next (u.reply p tag { outcome := .held, results := [BitVec.ofNat 8 h.val] })) ∧
    (s.spelled p (.releaseAuthority p) = some tag →
      (s.access.holder = some p → exec (.releaseAuthority p) s =
        .next ({ u with access := { u.access with holder := none } }.reply p tag { outcome := .ok, results := [] })) ∧
      (s.access.holder ≠ some p → exec (.releaseAuthority p) s =
        .next (u.reply p tag { outcome := .state, results := [] }))) ∧
    (s.spelled p (.seizeAuthority p) = some tag →
      (s.access.seize.get p = false → exec (.seizeAuthority p) s =
        .next (u.reply p tag { outcome := .denied, results := [3] })) ∧
      (s.access.seize.get p = true → (s.access.holder = none ∨ s.access.holder = some p) → exec (.seizeAuthority p) s =
        .next (v.reply p tag { outcome := .ok, results := [] })) ∧
      ∀ h, h ≠ p → s.access.seize.get p = true → s.access.holder = some h → exec (.seizeAuthority p) s =
        .next ((v.post (h, { kind := .authorityLost, subject := BitVec.ofNat 8 p.val })).reply p tag
          { outcome := .ok, results := [] }))

/-- Every request of the Authority class from a port that does not hold configuration authority is answered NO_AUTHORITY with
result length 0, whatever its parameters; a SET_WINDOW naming port 9 from the holder is answered RANGE (R34). -/
def Obligations.AuthorityClassRefusesOthers : Prop :=
  ∀ (i : Instr) (p : Port) (s : State) (tag : Byte), askingPort i = some p → s.spelled p i = some tag →
    ((match i with
      | .setSeizeRight _ _ _ => True
      | .setWindow _ _ _ _ _ _ _ _ _ => True
      | .setTrim _ _ _ => True
      | .setGroup _ _ _ => True
      | .setProfile _ _ _ _ _ _ => True
      | .setFieldPlan _ _ _ _ _ _ => True
      | .selectReference _ _ => True
      | _ => False) → s.access.holder ≠ some p →
        exec i s = .next ((s.endTransaction p).reply p tag { outcome := .noAuthority, results := [] })) ∧
    ∀ w a b c d e f, i = .setWindow p 9 w a b c d e f → s.access.holder = some p →
      ∃ r, exec i s = .next ((s.endTransaction p).reply p tag { outcome := .range, results := r })

/-- From the holder, SET_SEIZE_RIGHT sets the named port's seize right (R38), and SET_WINDOW replaces all six fields of the
named window at once, base and mask masked to six bits, priority and tag to two (R31); both are answered OK with result length
0. -/
def Obligations.HolderSetsRightsAndWindows : Prop :=
  ∀ (s : State) (p q : Port) (w : Fin 2) (tag port window : Byte), s.access.holder = some p → port.toNat = q.val →
    let u := s.endTransaction p
    (∀ switch, s.spelled p (.setSeizeRight p port switch) = some tag →
      exec (.setSeizeRight p port switch) s =
        .next ({ u with access := { u.access with seize := put u.access.seize q (decide (switch ≠ 0)) } }.reply p tag
          { outcome := .ok, results := [] })) ∧
    ∀ enabled base mask priority listenOnly wtag : Byte, window.toNat = w.val →
      s.spelled p (.setWindow p port window enabled base mask priority listenOnly wtag) = some tag →
      ∃ a : AccessUnit, exec (.setWindow p port window enabled base mask priority listenOnly wtag) s =
          .next ({ u with access := a }.reply p tag { outcome := .ok, results := [] }) ∧
        a.seize = s.access.seize ∧ a.holder = s.access.holder ∧
        (∀ q' w', (q', w') ≠ (q, w) → a.window q' w' = s.access.window q' w') ∧
        (a.window q w).enabled = decide (enabled ≠ 0) ∧ (a.window q w).listenOnly = decide (listenOnly ≠ 0) ∧
        (a.window q w).base.toNat = base.toNat % 64 ∧ (a.window q w).mask.toNat = mask.toNat % 64 ∧
        (a.window q w).priority.toNat = priority.toNat % 4 ∧ (a.window q w).tag.toNat = wtag.toNat % 4

/-- A window matches a destination when it is enabled and agrees with its base in every bit its mask does not set; the five
patterns that R24 works out. -/
def Obligations.WindowsMatchByUnmaskedBits : Prop :=
  (∀ (w : Window) (d : Dest), w.matchesDest d = true ↔
    w.enabled = true ∧ ∀ i : Fin 6, w.mask.getLsbD i.val = false → d.val.testBit i.val = w.base.getLsbD i.val) ∧
  ∀ (w : Window), w.enabled = true →
    (w.mask = 0 → ∀ d : Dest, w.matchesDest d = true ↔ d.val = w.base.toNat) ∧
    (w.mask = 63 → ∀ d : Dest, w.matchesDest d = true) ∧
    (w.base = 1 → w.mask = 62 → ∀ d : Dest, w.matchesDest d = true ↔ d.val % 2 = 1) ∧
    (w.base = 32 → w.mask = 31 → ∀ d : Dest, w.matchesDest d = true ↔ 32 ≤ d.val) ∧
    (w.base = 56 → w.mask = 0 → ∀ d : Dest, w.matchesDest d = false)

/-- Window 0 governs wherever it matches, window 1 elsewhere where it matches (R25). A Write or Read request whose destination
no window of the asker governs is DENIED with NO_WINDOW, and a Write request under a listen-only governing window with
LISTEN_ONLY (R26, R27); `write` says which class the request is of, and the named things lie in their classes. -/
def Obligations.UncoveredDestinationsAreDenied : Prop :=
  (∀ (a : AccessUnit) (p : Port) (d : Dest),
    ((a.window p 0).matchesDest d = true → a.governing p d = some (a.window p 0)) ∧
    ((a.window p 0).matchesDest d = false → (a.window p 1).matchesDest d = true → a.governing p d = some (a.window p 1)) ∧
    ((a.window p 0).matchesDest d = false → (a.window p 1).matchesDest d = false → a.governing p d = none)) ∧
  ∀ (i : Instr) (p : Port) (s : State) (tag : Byte) (d : Dest) (write : Bool), askingPort i = some p →
    s.spelled p i = some tag →
    (match i with
      | .routeAdd _ dest source _ mode => dest.toNat = d.val ∧ source.toNat < 40 ∧ mode.toNat < 2 ∧ write = true
      | .routeLevel _ dest source _ => dest.toNat = d.val ∧ source.toNat < 40 ∧ write = true
      | .routeRemove _ dest source => dest.toNat = d.val ∧ source.toNat < 40 ∧ write = true
      | .routeClear _ dest filter => dest.toNat = d.val ∧ (filter.toNat < 4 ∨ filter = 0xFF) ∧ write = true
      | .setDest _ dest _ _ => dest.toNat = d.val ∧ write = true
      | .talkRequest _ earpiece talker => earpiece.toNat < 16 ∧ 24 + earpiece.toNat = d.val ∧ talker.toNat < 32 ∧ write = true
      | .talkRelease _ earpiece => earpiece.toNat < 16 ∧ 24 + earpiece.toNat = d.val ∧ write = true
      | .setFoldback _ earpiece bed _ _ _ _ _ _ =>
        earpiece.toNat < 16 ∧ 24 + earpiece.toNat = d.val ∧ ((32 ≤ bed.toNat ∧ bed.toNat < 40) ∨ bed = 0xFF) ∧ write = true
      | .identify _ earpiece => earpiece.toNat < 16 ∧ 24 + earpiece.toNat = d.val ∧ write = true
      | .fieldStart _ line => 40 + line.toNat = d.val ∧ write = true
      | .fieldStop _ line => 40 + line.toNat = d.val ∧ write = true
      | .fieldPark _ line => 40 + line.toNat = d.val ∧ write = true
      | .readRoutes _ dest => dest.toNat = d.val ∧ write = false
      | .readFoldback _ earpiece => earpiece.toNat < 16 ∧ 24 + earpiece.toNat = d.val ∧ write = false
      | .readAccessory _ earpiece => earpiece.toNat < 16 ∧ 24 + earpiece.toNat = d.val ∧ write = false
      | .readField _ line => 40 + line.toNat = d.val ∧ write = false
      | _ => False) →
    (s.access.governing p d = none →
      exec i s = .next ((s.endTransaction p).reply p tag { outcome := .denied, results := [1] })) ∧
    ∀ w, s.access.governing p d = some w → w.listenOnly = true → write = true →
      exec i s = .next ((s.endTransaction p).reply p tag { outcome := .denied, results := [2] })

/-- A window changes only by SET_WINDOW from the configuration authority holder or by chip reset (R31). The holder changes
only by the three authority requests, by port reset of the holder and by chip reset (R35, R36, R37, R39). Trims' targets,
groups, profiles, seize rights and line plans change only at the holder's request or by chip reset (R26). -/
def Obligations.ConfigurationNeedsTheHolder : Prop :=
  ∀ (c : Instr) (s t : State), exec c s = .next t → c ≠ .chipReset →
    (t.access.windows = s.access.windows ∨
      ∃ p a b e f g h i j, c = .setWindow p a b e f g h i j ∧ s.access.holder = some p) ∧
    (t.access.holder = s.access.holder ∨ (∃ p, c = .claimAuthority p ∧ s.access.holder = none ∧ t.access.holder = some p) ∨
      (∃ p, c = .releaseAuthority p ∧ s.access.holder = some p ∧ t.access.holder = none) ∨
      (∃ p, c = .seizeAuthority p ∧ s.access.seize.get p = true ∧ t.access.holder = some p) ∨
      ∃ p, c = .prstAssert p ∧ s.access.holder = some p ∧ t.access.holder = none) ∧
    (t.access.seize = s.access.seize ∨ ∃ p a b, c = .setSeizeRight p a b ∧ s.access.holder = some p) ∧
    ((∀ x, (t.trim x).target = (s.trim x).target) ∨ ∃ p a b, c = .setTrim p a b ∧ s.access.holder = some p) ∧
    (t.foldback.groups = s.foldback.groups ∨ ∃ p a b, c = .setGroup p a b ∧ s.access.holder = some p) ∧
    (t.ident.profiles = s.ident.profiles ∨ ∃ p a b e f g, c = .setProfile p a b e f g ∧ s.access.holder = some p) ∧
    ((∀ k, (t.line k).depth = (s.line k).depth ∧ (t.line k).quiet = (s.line k).quiet ∧
        (t.line k).autoWake = (s.line k).autoWake ∧ (t.line k).acquire = (s.line k).acquire) ∨
      ∃ p a b e f g, c = .setFieldPlan p a b e f g ∧ s.access.holder = some p)

/-! ### The route store (03) -/

/-- ROUTE_ADD through the checks of R46 in their order: RANGE, the window check, SELF, STATE, revival in place (R48), FULL
with LIST, FULL with POOL, and the new entry at the end of the list with its gain word rising from 0 (R47). `l` is the level
code clamped to 127, raised to 40 on a panel's own source (R10, R49). Replies without a stated result have length 0 by the
model's reading (log entry 11). -/
def Obligations.RouteAddFollowsItsChecks : Prop :=
  ∀ (s : State) (p : Port) (tag dest source level mode : Byte), s.spelled p (.routeAdd p dest source level mode) = some tag →
    let u := s.endTransaction p
    let answered : Answer → Prop := fun a => exec (.routeAdd p dest source level mode) s = .next (u.reply p tag a)
    (48 ≤ dest.toNat ∨ 40 ≤ source.toNat ∨ 2 ≤ mode.toNat → answered { outcome := .range }) ∧
    ∀ (d : Dest) (x : Source) (m : EntryMode) (l : Level), dest.toNat = d.val → source.toNat = x.val → mode.toNat = m.code →
      l.val = (if d.val < 24 ∧ x.val = d.val then max 40 (min 127 level.toNat) else min 127 level.toNat) →
      let list := (s.dest d).list
      let frames := fadeFrames (s.dest d).fade
      (s.access.governing p d = none → answered { outcome := .denied, results := [1] }) ∧
      ∀ w, s.access.governing p d = some w →
        (w.listenOnly = true → answered { outcome := .denied, results := [2] }) ∧
        (w.listenOnly = false → 40 ≤ d.val → x.val + 16 = d.val → answered { outcome := .self }) ∧
        (w.listenOnly = false → ¬ (40 ≤ d.val ∧ x.val + 16 = d.val) →
          (∀ a y b, list = a ++ y :: b → y.source = x → (∀ z ∈ a ++ b, z.source ≠ x) →
            (y.state = .active → answered { outcome := .state }) ∧
            (y.state = .fadingOut →
              let y' := { y with state := .active, level := l, mode := m, creator := p, priority := w.priority, tag := w.tag,
                                 ramp := y.ramp.aim (gain l) frames }
              exec (.routeAdd p dest source level mode) s =
                .next ((u.putDest d { s.dest d with list := a ++ y' :: b }).reply p tag
                  { outcome := .ok, results := [2, BitVec.ofNat 8 l.val] }))) ∧
          ((∀ y ∈ list, y.source ≠ x) →
            (12 ≤ list.length → answered { outcome := .full, results := [1] }) ∧
            (list.length < 12 → s.route.free = 0 → answered { outcome := .full, results := [2] }) ∧
            (list.length < 12 → s.route.free ≠ 0 →
              let y : Entry :=
                { source := x, level := l, ramp := Ramp.aim { cur := 0, target := 0, step := 0 } (gain l) frames, mode := m,
                  creator := p, priority := w.priority, tag := w.tag, state := .active }
              let v := u.putDest d { s.dest d with list := list ++ [y] }
              exec (.routeAdd p dest source level mode) s =
                .next ({ v with route := { v.route with free := s.route.free - 1 } }.reply p tag
                  { outcome := .ok, results := [1, BitVec.ofNat 8 l.val] }))))

/-- ROUTE_LEVEL through the four checks of R51; a request that passes stores the level code, raised to 40 on a panel's own
source (R49), and restarts the ramp toward its gain word, keeping mode, creator, priority and tag. Replies without a stated
result have length 0 by the model's reading (log entry 11). -/
def Obligations.RouteLevelChangesALiveEntry : Prop :=
  ∀ (s : State) (p : Port) (tag dest source level : Byte), s.spelled p (.routeLevel p dest source level) = some tag →
    let u := s.endTransaction p
    let answered : Answer → Prop := fun a => exec (.routeLevel p dest source level) s = .next (u.reply p tag a)
    (48 ≤ dest.toNat ∨ 40 ≤ source.toNat → answered { outcome := .range }) ∧
    ∀ (d : Dest) (x : Source) (l : Level), dest.toNat = d.val → source.toNat = x.val →
      l.val = (if d.val < 24 ∧ x.val = d.val then max 40 (min 127 level.toNat) else min 127 level.toNat) →
      (s.access.governing p d = none → answered { outcome := .denied, results := [1] }) ∧
      ∀ w, s.access.governing p d = some w →
        (w.listenOnly = true → answered { outcome := .denied, results := [2] }) ∧
        (w.listenOnly = false →
          ((∀ y ∈ (s.dest d).list, y.source ≠ x) → answered { outcome := .absent }) ∧
          ∀ a y b, (s.dest d).list = a ++ y :: b → y.source = x → (∀ z ∈ a ++ b, z.source ≠ x) →
            (y.state = .fadingOut → answered { outcome := .absent }) ∧
            (y.state = .active → w.priority < y.priority →
              answered { outcome := .protectedEntry,
                         results := [BitVec.ofNat 8 y.creator.val, BitVec.ofNat 8 y.priority.toNat] }) ∧
            (y.state = .active → y.priority ≤ w.priority →
              let y' := { y with level := l, ramp := y.ramp.aim (gain l) (fadeFrames (s.dest d).fade) }
              exec (.routeLevel p dest source level) s =
                .next ((u.putDest d { s.dest d with list := a ++ y' :: b }).reply p tag
                  { outcome := .ok, results := [BitVec.ofNat 8 l.val] })))

/-- ROUTE_REMOVE through the checks of R52: the live entry becomes FADING_OUT with target 0; where its gain word is 0 in that
event it is freed at once and its entry returns to the pool (R54). The premise that no other entry of the list is finished
holds in every state of `RouteStore.Sound`. Replies without a stated result have length 0 by the model's reading (log entry
11). -/
def Obligations.RouteRemoveBeginsTheFade : Prop :=
  ∀ (s : State) (p : Port) (tag dest source : Byte), s.spelled p (.routeRemove p dest source) = some tag →
    let u := s.endTransaction p
    let answered : Answer → Prop := fun a => exec (.routeRemove p dest source) s = .next (u.reply p tag a)
    (48 ≤ dest.toNat ∨ 40 ≤ source.toNat → answered { outcome := .range }) ∧
    ∀ (d : Dest) (x : Source), dest.toNat = d.val → source.toNat = x.val →
      (s.access.governing p d = none → answered { outcome := .denied, results := [1] }) ∧
      ∀ w, s.access.governing p d = some w →
        (w.listenOnly = true → answered { outcome := .denied, results := [2] }) ∧
        (w.listenOnly = false →
          ((∀ y ∈ (s.dest d).list, y.source ≠ x) → answered { outcome := .absent }) ∧
          ∀ a y b, (s.dest d).list = a ++ y :: b → y.source = x →
            (∀ z ∈ a ++ b, z.source ≠ x ∧ ¬ (z.state = .fadingOut ∧ z.ramp.cur = 0)) →
            (y.state = .fadingOut → answered { outcome := .absent }) ∧
            (y.state = .active → w.priority < y.priority →
              answered { outcome := .protectedEntry,
                         results := [BitVec.ofNat 8 y.creator.val, BitVec.ofNat 8 y.priority.toNat] }) ∧
            (y.state = .active → y.priority ≤ w.priority →
              let y' := { y with state := .fadingOut, ramp := y.ramp.aim 0 (fadeFrames (s.dest d).fade) }
              (y'.ramp.cur ≠ 0 → exec (.routeRemove p dest source) s =
                .next ((u.putDest d { s.dest d with list := a ++ y' :: b }).reply p tag { outcome := .ok })) ∧
              (y'.ramp.cur = 0 →
                let v := u.putDest d { s.dest d with list := a ++ b }
                exec (.routeRemove p dest source) s =
                  .next ({ v with route := { v.route with free := s.route.free + 1 } }.reply p tag { outcome := .ok }))))

/-- ROUTE_CLEAR through its checks: every ACTIVE entry that passes the tag filter and is stamped at most at the asker's
priority begins its fade, those that reach 0 at once are freed, and the reply counts the cleared and the protected (R53, R54).
A RANGE reply has no result by the model's reading (log entry 11). -/
def Obligations.RouteClearSortsTheList : Prop :=
  ∀ (s : State) (p : Port) (tag dest filter : Byte), s.spelled p (.routeClear p dest filter) = some tag →
    let u := s.endTransaction p
    let answered : Answer → Prop := fun a => exec (.routeClear p dest filter) s = .next (u.reply p tag a)
    (48 ≤ dest.toNat ∨ (4 ≤ filter.toNat ∧ filter ≠ 0xFF) → answered { outcome := .range }) ∧
    ∀ (d : Dest), dest.toNat = d.val → (filter.toNat < 4 ∨ filter = 0xFF) →
      (s.access.governing p d = none → answered { outcome := .denied, results := [1] }) ∧
      ∀ w, s.access.governing p d = some w →
        (w.listenOnly = true → answered { outcome := .denied, results := [2] }) ∧
        (w.listenOnly = false →
          let passes : Entry → Bool := fun y =>
            decide (y.state = .active ∧ (filter = 0xFF ∨ y.tag.toNat = filter.toNat))
          let cleared := (s.dest d).list.countP fun y => passes y && decide (y.priority ≤ w.priority)
          let kept := (s.dest d).list.countP fun y => passes y && decide (w.priority < y.priority)
          let faded := (s.dest d).list.map fun y =>
            if passes y ∧ y.priority ≤ w.priority then
              { y with state := .fadingOut, ramp := y.ramp.aim 0 (fadeFrames (s.dest d).fade) }
            else y
          let left := faded.filter fun y => decide (¬ (y.state = .fadingOut ∧ y.ramp.cur = 0))
          let v := u.putDest d { s.dest d with list := left }
          exec (.routeClear p dest filter) s =
            .next ({ v with route := { v.route with free := s.route.free + (faded.length - left.length) } }.reply p tag
              { outcome := .ok, results := [BitVec.ofNat 8 cleared, BitVec.ofNat 8 kept] }))

/-- SET_DEST stores the master level code clamped to 127 and the fade code masked to two bits, and moves no gain word (R56).
SET_TRIM from the holder gives the trim a target and 48 frames from its current gain word (R62): trim code `t` is the signed
byte clamped to -24 to 24 (R10, R166). Replies without a stated result have length 0 by the model's reading (log entry 11). -/
def Obligations.SetDestAndSetTrimStore : Prop :=
  (∀ (s : State) (p : Port) (tag dest master fade : Byte) (d : Dest) (w : Window) (l : Level) (f : BitVec 2),
    s.spelled p (.setDest p dest master fade) = some tag → dest.toNat = d.val → s.access.governing p d = some w →
    w.listenOnly = false → l.val = min 127 master.toNat → f.toNat = fade.toNat % 4 →
    exec (.setDest p dest master fade) s =
      .next (((s.endTransaction p).putDest d { master := l, fade := f, list := (s.dest d).list }).reply p tag
        { outcome := .ok })) ∧
  ∀ (s : State) (p : Port) (tag source trim : Byte) (x : Source) (t : Int),
    s.spelled p (.setTrim p source trim) = some tag → s.access.holder = some p → source.toNat = x.val →
    t = max (-24) (min 24 trim.toInt) →
    exec (.setTrim p source trim) s =
      .next (((s.endTransaction p).putTrim x ((s.trim x).aim (trimGain t) 48)).reply p tag { outcome := .ok })

/-- The read requests answer OK with the record as it stands, in the layouts of 09, section 9.5, and change no record (R32,
R58, R110, R125, R152, R165). The states, causes, modes and sources in them and in the notices have the codes of 09, section
9.4. -/
def Obligations.ReadRequestsReportTheRecords : Prop :=
  (RefSource.house.code = 0x00 ∧ RefSource.crystal.code = 0x01 ∧
      ∀ k : Line, (RefSource.field k).code.toNat = 16 + k.val) ∧
  ([.steady, .switching, .holdover] : List RefState).map RefState.code = [0, 1, 2] ∧
  ([.absent, .settling, .stable] : List Stability).map Stability.code = [0, 1, 2] ∧
  ([.selected, .pending, .switched, .timeout, .lost, .restored] : List RefCause).map RefCause.code = [1, 2, 3, 4, 5, 6] ∧
  ([.idle, .acquiring, .centering, .locked, .lost, .parked] : List LineState).map LineState.code = [0, 1, 2, 3, 4, 5] ∧
  ([.none, .start, .stop, .park, .lock, .noLock, .centred, .lockLoss, .stall, .retry, .wake] : List LineCause).map
    LineCause.code = [0, 1, 2, 3, 4, 5, 6, 7, 8, 9, 10] ∧
  ([.idle, .lead, .talk, .hold] : List FoldbackState).map FoldbackState.code = [0, 1, 2, 3] ∧
  ([.unknown, .probing, .present, .absent] : List AccessoryState).map AccessoryState.code = [0, 1, 2, 3] ∧
  ([.mono, .split, .leftOnly, .rightOnly] : List EarMode).map EarMode.code = [0, 1, 2, 3] ∧
  ([.latched, .momentary] : List EntryMode).map EntryMode.code = [0, 1] ∧
  ([.active, .fadingOut] : List EntryState).map EntryState.code = [0, 1] ∧
  ∀ (s : State) (p : Port) (tag : Byte),
    let u := s.endTransaction p
    let ok : List Byte → Host.Outcome State Fault Refusal := fun r => .next (u.reply p tag { outcome := .ok, results := r })
    let b8 : Nat → Byte := BitVec.ofNat 8
    let two : Nat → List Byte := fun n => [BitVec.ofNat 8 (n / 256), BitVec.ofNat 8 n]
    let ms : Option Nat → Nat := fun t => (t.getD 0 + 47) / 48
    let sw : Bool → Byte := fun b => if b then 1 else 0
    let rec4 : TalkRec → List Byte := fun t => [BitVec.ofNat 8 t.port.val, BitVec.ofNat 8 t.talker.val,
      BitVec.ofNat 8 (4 * t.priority.toNat + t.tag.toNat), (t.origin.map fun g => BitVec.ofNat 8 g.val).getD 0xFF]
    (∀ (port window : Byte) (q : Port) (i : Fin 2), s.spelled p (.readWindow p port window) = some tag →
      port.toNat = q.val → window.toNat = i.val →
      let w := s.access.window q i
      exec (.readWindow p port window) s = ok (
        [sw w.enabled, b8 w.base.toNat, b8 w.mask.toNat, b8 w.priority.toNat, sw w.listenOnly, b8 w.tag.toNat,
          b8 ((List.finRange 48).countP fun d => w.matchesDest d), sw (s.access.seize.get q),
          (s.access.holder.map fun h => BitVec.ofNat 8 h.val).getD 0xFF])) ∧
    (∀ (dest : Byte) (d : Dest), s.spelled p (.readRoutes p dest) = some tag → dest.toNat = d.val →
      s.access.governing p d ≠ none →
      exec (.readRoutes p dest) s = ok (
        [b8 (s.dest d).master.val, b8 (s.dest d).fade.toNat] ++ two s.route.free ++ [b8 (s.dest d).list.length] ++
          (s.dest d).list.flatMap fun y => [b8 y.source.val, b8 y.level.val,
            b8 (128 * y.state.code + 64 * y.mode.code + 16 * y.creator.val + 4 * y.priority.toNat + y.tag.toNat)])) ∧
    (∀ (earpiece : Byte) (e : Earpiece), s.spelled p (.readFoldback p earpiece) = some tag → earpiece.toNat = e.val →
      s.access.governing p (earDest e) ≠ none →
      let f := s.fb e
      exec (.readFoldback p earpiece) s = ok (
        [f.state.code, (f.slotSource.map fun x => BitVec.ofNat 8 x.val).getD 0xFF] ++
          (f.holder.map rec4).getD [0xFF, 0, 0, 0] ++ [b8 f.queue.length] ++ f.queue.flatMap rec4 ++
          [(f.bedSource.map fun g => BitVec.ofNat 8 (32 + g.val)).getD 0xFF, b8 f.nominal.val, b8 f.duck.val,
            b8 f.interrupt.val, b8 f.lead.val, f.hold, f.limit] ++ two (ms f.stateTimer) ++
          [b8 ((f.limitTimer.getD 0 + 47999) / 48000)])) ∧
    (∀ (earpiece : Byte) (e : Earpiece), s.spelled p (.readAccessory p earpiece) = some tag → earpiece.toNat = e.val →
      s.access.governing p (earDest e) ≠ none →
      let a := s.acc e
      exec (.readAccessory p earpiece) s = ok (
        [a.state.code] ++ two a.id.toNat ++ [b8 a.rest.toNat, b8 a.profile.val,
          b8 (s.ident.profiles.get a.profile).ceiling.val, (s.ident.profiles.get a.profile).ear.code,
          b8 a.reading.toNat, b8 a.readings.length, b8 (ms a.debounce)])) ∧
    (∀ (line : Byte) (k : Line), s.spelled p (.readField p line) = some tag → line.toNat = k.val →
      s.access.governing p (lineDest k) ≠ none →
      let l := s.line k
      exec (.readField p line) s = ok (
        [l.state.code, b8 l.depth.toNat, b8 l.quiet.val, sw l.autoWake, b8 l.acquire] ++ two l.buffer.length ++
          [if l.state = .locked then BitVec.ofInt 8 l.owed else 0] ++ two l.quietSlips ++ two l.forcedSlips ++
          [l.lastCause.code] ++ two (if l.state = .acquiring ∨ l.state = .lost then ms l.timer else 0) ++
          [b8 ((if s.reference.active = .field k then 1 else 0) + (if s.reference.tracked = some k then 2 else 0))])) ∧
    (s.spelled p (.readReference p) = some tag →
      let r := s.reference
      exec (.readReference p) s = ok (
        [r.selected.code, r.active.code, r.state.code, (r.tracked.map fun k => BitVec.ofNat 8 k.val).getD 0xFF] ++
          two (ms r.deadline) ++ [r.house.code, b8 (ms r.houseSettle), r.field.code, b8 (ms r.fieldSettle),
            ((r.tracked.map fun k => (s.line k).state).getD .idle).code]))

/-! ### Mix arithmetic (04) -/

/-- The gain word of a level code from 0 to 126 is 65,536 times 10 to the power -a/40, rounded to the nearest integer, an
exact half up: with G that gain word, 2G - 1 ≤ 131,072 times 10 to the power -a/40 < 2G + 1, here raised to the power 40. Code
127 gives 0, and the law is strictly falling (R64). The trim codes +1 to +24 have the gain words that R65 prints; its last
value stands where the law would give 260,904 (log entry 23). Trim code 0 gives 65,536, and a negative trim code t gives G(-t)
(R61, R65). -/
def Obligations.GainWordsFollowTheLaw : Prop :=
  (∀ a : Level, a.val ≤ 126 →
    (2 * gain a - 1) ^ 40 * 10 ^ a.val ≤ 131072 ^ 40 ∧ 131072 ^ 40 < (2 * gain a + 1) ^ 40 * 10 ^ a.val) ∧
  gain 127 = 0 ∧ gain 0 = 65536 ∧ gain 126 = 46 ∧ (∀ a b : Level, a < b → gain b < gain a) ∧
  (List.range 24).map (fun k => trimGain (k + 1)) =
    [69419, 73533, 77890, 82505, 87394, 92572, 98057, 103868, 110022, 116541, 123447, 130762, 138510, 146717, 155410, 164619,
      174373, 184706, 195650, 207243, 219523, 232531, 246309, 260899] ∧
  trimGain 0 = 65536 ∧ ∀ a : Level, a.val ≤ 24 → trimGain (-a.val) = gain a

/-- Scaling is the exact product plus 32,768, divided by 65,536 and rounded down; by 65,536 it returns its argument and by 0
it returns 0; a gain word of at most 65,536 never raises a magnitude (R66). Saturation keeps a value within its bounds and
brings any other to the nearer bound (R67). -/
def Obligations.ScalingRoundsAndSaturationBounds : Prop :=
  (∀ (x : Int) (m : Nat), 65536 * scale x m ≤ x * m + 32768 ∧ x * m + 32768 < 65536 * (scale x m + 1)) ∧
  (∀ x : Int, scale x 65536 = x ∧ scale x 0 = 0) ∧
  (∀ (x : Int) (m c : Nat), x.natAbs ≤ c → m ≤ 65536 → (scale x m).natAbs ≤ c) ∧
  (scale 1 32768 = 1 ∧ scale (-1) 32768 = 0 ∧ scale (-3) 32768 = -1 ∧ scale 3 32768 = 2 ∧ scale (-2) 49152 = -1) ∧
  (∀ lo hi x : Int, lo ≤ hi → (x < lo → saturate lo hi x = lo) ∧ (hi < x → saturate lo hi x = hi) ∧
    (lo ≤ x → x ≤ hi → saturate lo hi x = x)) ∧
  saturate24 9000000 = 8388607

/-- Setting a target: a length of 0 makes it the current value at once; otherwise the step is the distance divided by the
length, rounded up and at least 1, from the current value or from 0 (R69). The gain word then meets its target within that
many frames, never leaves the span between its start and its target, and stays at its target (R70). -/
def Obligations.RampReachesItsTarget : Prop :=
  ∀ (r : Ramp) (target frames : Nat) (fromZero : Bool),
    let start := if fromZero = true then 0 else r.cur
    let a := r.aim target frames fromZero
    let distance := max start target - min start target
    a.target = target ∧
    (frames = 0 → a.cur = target) ∧
    (frames ≠ 0 → a.cur = start ∧ 1 ≤ a.step ∧ distance ≤ frames * a.step ∧
      (a.step = 1 ∨ frames * (a.step - 1) < distance)) ∧
    ∀ n : Nat,
      let c := (Ramp.advance^[n] a).cur
      (frames ≤ n → c = target) ∧ min start target ≤ c ∧ c ≤ max start target ∧ (Ramp.advance^[n] a).target = target ∧
      (c = target → (Ramp.advance^[n + 1] a).cur = target) ∧
      (c + a.step ≤ target → (Ramp.advance^[n + 1] a).cur = c + a.step) ∧
      (target + a.step ≤ c → (Ramp.advance^[n + 1] a).cur = c - a.step)

/-- A frame event moves every gain word of the part by its step (R70), frees the entries whose fade completes (R54), and
advances every timer by one frame, but for the stall timer of the active reference line (R150, R155). That a timer which has
run down stays at 0 until its own expiry command is read from R155 (log entry 4); that the frame consumes the samples the line
readers have delivered is the model's choice (log entry 6). Timers and settings it changes no further. -/
def Obligations.FrameStepsGainsAndTimers : Prop :=
  ∀ (s t : State) (mics programmes : List Sample), exec (.mixFrameEvent mics programmes) s = .next t →
    (∀ x, t.trim x = (s.trim x).advance) ∧
    (∀ d, (t.dest d).master = (s.dest d).master ∧ (t.dest d).fade = (s.dest d).fade ∧
      (t.dest d).list = (((s.dest d).list.map fun y => { y with ramp := y.ramp.advance }).filter fun y =>
        decide (¬ (y.state = .fadingOut ∧ y.ramp.cur = 0)))) ∧
    t.route.free + t.route.used = s.route.free + s.route.used ∧
    (∀ e, t.gate e = (s.gate e).advance) ∧
    (∀ e, t.fb e = { s.fb e with
      bed := (s.fb e).bed.advance, slot := (s.fb e).slot.advance, stateTimer := (s.fb e).stateTimer.map (· - 1),
      limitTimer := (s.fb e).limitTimer.map (· - 1) }) ∧
    (∀ e, t.acc e = { s.acc e with
      settle := (s.acc e).settle.map (· - 1), debounce := (s.acc e).debounce.map (· - 1) }) ∧
    t.reference = { s.reference with
      deadline := s.reference.deadline.map (· - 1), houseSettle := s.reference.houseSettle.map (· - 1),
      fieldSettle := s.reference.fieldSettle.map (· - 1) } ∧
    (∀ k, t.line k = { s.line k with
      delivered := none, link := (t.line k).link,
      timer :=
        if s.reference.active = .field k ∧ ((s.line k).state = .centering ∨ (s.line k).state = .locked) then (s.line k).timer
        else (s.line k).timer.map (· - 1) }) ∧
    t.access = s.access ∧ t.foldback.groups = s.foldback.groups ∧ t.foldback.arrivals = s.foldback.arrivals ∧
    t.ident.profiles = s.ident.profiles ∧ t.nresetLow = s.nresetLow ∧ t.pending = s.pending ∧
    ∀ p, (t.port p).txn = (s.port p).txn ∧ (t.port p).slot = (s.port p).slot ∧ (t.port p).sdo = (s.port p).sdo ∧
      (t.port p).held = (s.port p).held

/-- A frame event computes every destination from the same trimmed samples and the stepped gain words: the list sum, the bed
and the talk by the ear mode, the master level, the limit, the gate (R73 to R82); the return goes out on the links that are up
(R134); the meters take the outputs (R83), and each clip flag that was clear and is set raises one CLIP notice to the covering
ports (R84). The raw sample of a LOCKED line that no reader has served is a free value (log entry 6), and the order of several
CLIP notices is the model's (log entry 10). -/
def Obligations.FrameFormsTheOutputs : Prop :=
  ∀ (s : State) (mics programmes : List Sample), mics.length = 24 → programmes.length = 8 →
    ∃ t, exec (.mixFrameEvent mics programmes) s = .next t ∧
      let field : Line → Int := fun k =>
        if (s.line k).state = .locked then
          ((s.line k).delivered.getD (Config.undelivered (8 * s.mix.unread + k.val))).toInt
        else 0
      let raw : Source → Int := fun x =>
        if x.val < 24 then (mics.getD x.val 0).toInt
        else if x.val < 32 then field (Fin.ofNat 8 (x.val - 24))
        else (programmes.getD (x.val - 32) 0).toInt
      let trimmed : Source → Int := fun x => saturate (-8388608) 8388607 (scale (raw x) (t.trim x).cur)
      let sum : Dest → Int := fun d => ((t.dest d).list.map fun y => scale (trimmed y.source) y.ramp.cur).sum
      let bed : Earpiece → Int := fun e =>
        match (s.fb e).bedSource with
        | none => 0
        | some g => scale (trimmed (programmeSource g)) (t.fb e).bed.cur
      let talk : Earpiece → Int := fun e =>
        match (s.fb e).slotSource with
        | none => 0
        | some x => scale (trimmed (talkerSource x)) (t.fb e).slot.cur
      let master : Dest → Int → Int := fun d x => scale x (gain (s.dest d).master)
      let lane : Dest → Int := fun d => master d (sum d)
      let profile : Earpiece → Profile := fun e => s.ident.profiles.get (s.acc e).profile
      let left : Earpiece → Int := fun e => master (earDest e)
        (match (profile e).ear with
          | .mono => sum (earDest e) + bed e + talk e
          | .split => sum (earDest e) + bed e
          | .leftOnly => sum (earDest e) + bed e + talk e
          | .rightOnly => 0)
      let right : Earpiece → Int := fun e => master (earDest e)
        (match (profile e).ear with
          | .mono => sum (earDest e) + bed e + talk e
          | .split => talk e
          | .leftOnly => 0
          | .rightOnly => sum (earDest e) + bed e + talk e)
      let limited : Earpiece → Int → Int := fun e x =>
        saturate (-(scale 8388607 (gain (profile e).ceiling))) (scale 8388607 (gain (profile e).ceiling)) x
      let out24 : Dest → Int := fun d => saturate (-8388608) 8388607 (lane d)
      (∀ n, t.mix.panelOut.get n = out24 (panelDest n)) ∧
      (∀ k, (t.line k).link =
        if (s.line k).state = .idle ∨ (s.line k).state = .parked then none else some (out24 (lineDest k))) ∧
      (∀ e, t.mix.earOut.get e =
        (scale (limited e (left e)) (t.gate e).cur, scale (limited e (right e)) (t.gate e).cur)) ∧
      (∀ d, d.val < 24 ∨ 40 ≤ d.val → t.meter d =
        { peak := max (s.meter d).peak (out24 d).natAbs, clip := (s.meter d).clip || decide (out24 d ≠ lane d) }) ∧
      (∀ e, t.meter (earDest e) =
        { peak := max (s.meter (earDest e)).peak (max (t.mix.earOut.get e).1.natAbs (t.mix.earOut.get e).2.natAbs),
          clip := (s.meter (earDest e)).clip || decide (limited e (left e) ≠ left e) ||
            decide (limited e (right e) ≠ right e) }) ∧
      t.ports = (s.postAll (((List.finRange 48).filter fun d => (t.meter d).clip && !(s.meter d).clip).flatMap fun d =>
        ((List.finRange 4).filter fun p => s.access.covers p d).map fun p =>
          (p, { kind := .clip, subject := BitVec.ofNat 8 d.val }))).ports

/-- The bounds the rules give: from gain words within 0 to 65,536 and trimmed samples of magnitude at most 8,388,608, a list
of at most 12 entries, a bed and a talk component sum to at most 117,440,512 on each channel (R77); after a frame event every
panel output and return lies in the 24-bit range (R80), and every earpiece output within its profile's ceiling, 0 while the
gate is 0, and 0 while its accessory is not PRESENT (R81, R82). The premise of that last clause, AccessoriesSound, is an
invariant of every step (StepKeepsTheAccessoriesSound). -/
def Obligations.OutputsStayWithinLimits : Prop :=
  (∀ (t : Vector Int 40) (l : List Entry) (f : Foldback) (m : EarMode), (∀ x, (t.get x).natAbs ≤ 8388608) → l.length ≤ 12 →
    (∀ y ∈ l, y.ramp.cur ≤ 65536) → f.bed.cur ≤ 65536 → f.slot.cur ≤ 65536 →
    (listSum t l).natAbs ≤ 12 * 8388608 ∧
    (channels m (listSum t l) (f.bedPart t) (f.talkPart t)).1.natAbs ≤ 117440512 ∧
    (channels m (listSum t l) (f.bedPart t) (f.talkPart t)).2.natAbs ≤ 117440512) ∧
  ∀ (s t : State) (mics programmes : List Sample), s.mix.Sound → exec (.mixFrameEvent mics programmes) s = .next t →
    (∀ n, -8388608 ≤ t.mix.panelOut.get n ∧ t.mix.panelOut.get n ≤ 8388607) ∧
    (∀ k x, (t.line k).link = some x → -8388608 ≤ x ∧ x ≤ 8388607) ∧
    ∀ e,
      let c := scale 8388607 (gain (s.ident.profiles.get (s.acc e).profile).ceiling)
      c ≤ 8388607 ∧ -c ≤ (t.mix.earOut.get e).1 ∧ (t.mix.earOut.get e).1 ≤ c ∧ -c ≤ (t.mix.earOut.get e).2 ∧
        (t.mix.earOut.get e).2 ≤ c ∧ ((t.gate e).cur = 0 → t.mix.earOut.get e = (0, 0)) ∧
        (AccessoriesSound s → (s.acc e).state ≠ .present → t.mix.earOut.get e = (0, 0))

/-- READ_LEVELS reports a span of at most 14 destinations that ends early at 47; a covered meter is reported and cleared, an
uncovered one reads 0 and is left as it was (R85). -/
def Obligations.ReadLevelsReadsAndClears : Prop :=
  ∀ (s : State) (p : Port) (tag first count : Byte) (d0 : Dest), s.spelled p (.readLevels p first count) = some tag →
    first.toNat = d0.val →
    let n := min (max 1 (min 14 count.toNat)) (48 - d0.val)
    let covered : Dest → Bool := fun d => (s.access.governing p d).isSome
    let reading : Dest → List Byte := fun d =>
      if covered d = true then
        [BitVec.ofNat 8 ((s.meter d).peak / 65536), BitVec.ofNat 8 ((s.meter d).peak / 256), BitVec.ofNat 8 (s.meter d).peak,
          if (s.meter d).clip then 1 else 0]
      else [0, 0, 0, 0]
    ∃ (meters : Vector Meter 48) (ds : List Dest),
      ds.map (·.val) = (List.range n).map (d0.val + ·) ∧
      (∀ d, meters.get d =
        if d0.val ≤ d.val ∧ d.val < d0.val + n ∧ covered d = true then { peak := 0, clip := false } else s.meter d) ∧
      exec (.readLevels p first count) s =
        .next ({ s.endTransaction p with mix := { s.mix with meters := meters } }.reply p tag
          { outcome := .ok, results := [first, BitVec.ofNat 8 n] ++ ds.flatMap reading })

/-! ### Foldback interrupts (05) -/

/-- A TALK_REQUEST on an earpiece without a holder makes a new record the holder in the same event: from IDLE into LEAD, or
through it into TALK where the lead is 0, the bed ducking over 48 frames (R95); from HOLD straight into TALK (R96). The slot
opens from 0 over 48 frames (R91), and the limit timer starts where the limit setting is not 0 (R101). -/
def Obligations.TalkIsGrantedOnAFreeEarpiece : Prop :=
  ∀ (s : State) (p : Port) (tag earpiece talker : Byte) (e : Earpiece) (x : Talker) (w : Window),
    s.spelled p (.talkRequest p earpiece talker) = some tag → earpiece.toNat = e.val → talker.toNat = x.val →
    s.access.governing p (earDest e) = some w → w.listenOnly = false → (s.fb e).holder = none → (s.fb e).queue = [] →
    let f := s.fb e
    let made : TalkRec :=
      { port := p, talker := x, priority := w.priority, tag := w.tag, origin := none, arrival := s.foldback.arrivals }
    let limit := if f.limit = 0 then none else some (48000 * f.limit.toNat)
    let ducked := f.bed.aim (if f.bedSource = none then 0 else gain f.duck) 48
    let u := s.endTransaction p
    let v := { u with foldback := { u.foldback with arrivals := s.foldback.arrivals + 1 } }
    let becomes : Foldback → Byte → Prop := fun g r => exec (.talkRequest p earpiece talker) s =
      .next ((v.putFb e g).reply p tag { outcome := .ok, results := [r] })
    (f.state = .idle → f.lead ≠ 0 →
      becomes { f with holder := some made, state := .lead, stateTimer := some (48 * f.lead.val), limitTimer := limit,
                       bed := ducked } 1) ∧
    (f.state = .idle → f.lead = 0 →
      becomes { f with holder := some made, state := .talk, stateTimer := none, limitTimer := limit, bed := ducked,
                       slotSource := some x, slot := f.slot.aim (gain f.interrupt) 48 true } 2) ∧
    (f.state = .hold →
      becomes { f with holder := some made, state := .talk, stateTimer := none, limitTimer := limit, slotSource := some x,
                       slot := f.slot.aim (gain f.interrupt) 48 true } 2)

/-- A TALK_REQUEST from a port that has a record on the earpiece is refused STATE with HOLDER or WAITING (R94). Against a
holder whose priority is at least its own it waits, at the end of its priority class, answered QUEUED with its position and
the holder's port, or is refused FULL with QUEUE where two records wait (R97). The premise on arrivals holds in every state of
`FoldbackUnit.Sound`. -/
def Obligations.TalkWaitsBehindAnEqualHolder : Prop :=
  ∀ (s : State) (p : Port) (tag earpiece talker : Byte) (e : Earpiece) (x : Talker) (w : Window),
    s.spelled p (.talkRequest p earpiece talker) = some tag → earpiece.toNat = e.val → talker.toNat = x.val →
    s.access.governing p (earDest e) = some w → w.listenOnly = false →
    let f := s.fb e
    let u := s.endTransaction p
    let answered : Answer → Prop := fun a => exec (.talkRequest p earpiece talker) s = .next (u.reply p tag a)
    (∀ h, f.holder = some h → h.port = p → answered { outcome := .state, results := [1] }) ∧
    ((∀ h, f.holder = some h → h.port ≠ p) → (∃ t ∈ f.queue, t.port = p) →
      answered { outcome := .state, results := [2] }) ∧
    ∀ h, f.holder = some h → h.port ≠ p → (∀ t ∈ f.queue, t.port ≠ p) → w.priority ≤ h.priority →
      (2 ≤ f.queue.length → answered { outcome := .full, results := [3] }) ∧
      ∀ a b, f.queue = a ++ b → f.queue.length < 2 → (∀ t ∈ f.queue, t.arrival < s.foldback.arrivals) →
        (∀ t ∈ a, w.priority ≤ t.priority) → (∀ t ∈ b, t.priority < w.priority) →
        let made : TalkRec :=
          { port := p, talker := x, priority := w.priority, tag := w.tag, origin := none, arrival := s.foldback.arrivals }
        let v := { u with foldback := { u.foldback with arrivals := s.foldback.arrivals + 1 } }
        exec (.talkRequest p earpiece talker) s =
          .next ((v.putFb e { f with queue := a ++ made :: b }).reply p tag
            { outcome := .queued, results := [BitVec.ofNat 8 (a.length + 1), BitVec.ofNat 8 h.port.val] })

/-- A TALK_REQUEST above the holder's priority preempts it (R98): the old holder goes to the front of the queue and receives
TALK_PREEMPTED; a third record at the tail is displaced and receives TALK_ENDED after it (R99); the state and a running lead
stay; in TALK the slot switches to the new talker from 0; the limit restarts. The premise that the holder ranks before every
waiting record holds in every state of `FoldbackUnit.Sound`. -/
def Obligations.TalkPreemptsALowerHolder : Prop :=
  ∀ (s : State) (p : Port) (tag earpiece talker : Byte) (e : Earpiece) (x : Talker) (w : Window) (h : TalkRec),
    s.spelled p (.talkRequest p earpiece talker) = some tag → earpiece.toNat = e.val → talker.toNat = x.val →
    s.access.governing p (earDest e) = some w → w.listenOnly = false → (s.fb e).holder = some h →
    h.priority < w.priority → (∀ t ∈ (s.fb e).records, t.port ≠ p) →
    (∀ t ∈ (s.fb e).queue, t.priority < h.priority ∨ (t.priority = h.priority ∧ h.arrival < t.arrival)) →
    let f := s.fb e
    let made : TalkRec :=
      { port := p, talker := x, priority := w.priority, tag := w.tag, origin := none, arrival := s.foldback.arrivals }
    let limit := if f.limit = 0 then none else some (48000 * f.limit.toNat)
    let u := s.endTransaction p
    let v := { u with foldback := { u.foldback with arrivals := s.foldback.arrivals + 1 } }
    let preempted : Post :=
      (h.port, { kind := .talkPreempted, subject := BitVec.ofNat 8 e.val, d0 := BitVec.ofNat 8 p.val })
    let displaced : TalkRec → Post := fun t => (t.port, { kind := .talkEnded, subject := BitVec.ofNat 8 e.val, d0 := 2 })
    let becomes : Foldback → List Post → Byte → Prop := fun g posts r => exec (.talkRequest p earpiece talker) s =
      .next (((v.putFb e g).postAll posts).reply p tag { outcome := .ok, results := [r] })
    let g := { f with holder := some made, limitTimer := limit }
    let opened := f.slot.aim (gain f.interrupt) 48 true
    (f.queue.length ≤ 1 →
      (f.state = .lead → becomes { g with queue := h :: f.queue } [preempted] 1) ∧
      (f.state = .talk → becomes { g with queue := h :: f.queue, slotSource := some x, slot := opened } [preempted] 2)) ∧
    ∀ t1 t2, f.queue = [t1, t2] →
      (f.state = .lead → becomes { g with queue := [h, t1] } [preempted, displaced t2] 1) ∧
      (f.state = .talk →
        becomes { g with queue := [h, t1], slotSource := some x, slot := opened } [preempted, displaced t2] 2)

/-- TALK_RELEASE from the holder's port hands the earpiece to the queue head with TALK_GRANTED, or passes it to HOLD or, with
a hold of 0, to IDLE with the bed restored over the fade code's length (R90, R103); from a waiting port it takes the record
out of the queue; from any other it is answered ABSENT (R104). That a release from LEAD closes the slot by the same ramp, and
that ABSENT has no result, is the model's reading (log entries 14 and 11). -/
def Obligations.TalkReleaseHandsOver : Prop :=
  ∀ (s : State) (p : Port) (tag earpiece : Byte) (e : Earpiece) (w : Window),
    s.spelled p (.talkRelease p earpiece) = some tag → earpiece.toNat = e.val →
    s.access.governing p (earDest e) = some w → w.listenOnly = false →
    let f := s.fb e
    let u := s.endTransaction p
    let limit := if f.limit = 0 then none else some (48000 * f.limit.toNat)
    let becomes : Foldback → List Post → Byte → Prop := fun g posts r => exec (.talkRelease p earpiece) s =
      .next (((u.putFb e g).postAll posts).reply p tag { outcome := .ok, results := [r] })
    (∀ h, f.holder = some h → h.port = p →
      (∀ t rest, f.queue = t :: rest →
        becomes { f with holder := some t, queue := rest, state := .talk, stateTimer := none, limitTimer := limit,
                         slotSource := some t.talker, slot := f.slot.aim (gain f.interrupt) 48 true }
          [(t.port, { kind := .talkGranted, subject := BitVec.ofNat 8 e.val, d0 := BitVec.ofNat 8 t.talker.val })] 1) ∧
      (f.queue = [] → f.hold ≠ 0 →
        becomes { f with holder := none, state := .hold, stateTimer := some (480 * f.hold.toNat), limitTimer := none,
                         slot := f.slot.aim 0 48 } [] 1) ∧
      (f.queue = [] → f.hold = 0 →
        becomes { f with holder := none, state := .idle, stateTimer := none, limitTimer := none, slot := f.slot.aim 0 48,
                         bed := f.bed.aim (if f.bedSource = none then 0 else gain f.nominal)
                           (fadeFrames (s.dest (earDest e)).fade) } [] 1)) ∧
    ((∀ h, f.holder = some h → h.port ≠ p) →
      (∀ a t b, f.queue = a ++ t :: b → t.port = p → (∀ y ∈ a ++ b, y.port ≠ p) →
        becomes { f with queue := a ++ b } [] 2) ∧
      ((∀ t ∈ f.queue, t.port ≠ p) →
        exec (.talkRelease p earpiece) s = .next (u.reply p tag { outcome := .absent })))

/-- The three expiries of a foldback record, where its timer has run down: the lead opens the slot on the current holder's
talker (R100); the hold restores the bed over the fade code's length (R102); the limit raises TALK_ENDED with LIMIT and then
does what a release of the holder does (R105). An expiry whose timer has not run down does not occur (log entries 2 and 4). -/
def Obligations.FoldbackTimersExpire : Prop :=
  ∀ (s : State) (e : Earpiece) (t : TalkRec),
    let f := s.fb e
    (f.state = .lead → f.stateTimer = some 0 → f.holder = some t →
      exec (.leadExpiry e) s = .next (s.putFb e { f with
        state := .talk, stateTimer := none, slotSource := some t.talker,
        slot := f.slot.aim (gain f.interrupt) 48 true })) ∧
    (f.state = .hold → f.stateTimer = some 0 →
      exec (.holdExpiry e) s = .next (s.putFb e { f with
        state := .idle, stateTimer := none,
        bed := f.bed.aim (if f.bedSource = none then 0 else gain f.nominal) (fadeFrames (s.dest (earDest e)).fade) })) ∧
    (f.limitTimer = some 0 → f.holder = some t →
      exec (.limitExpiry e) s =
        .next ((s.putFb e (f.holderLeaves e (fadeFrames (s.dest (earDest e)).fade)).1).postAll
          ((t.port, { kind := .talkEnded, subject := BitVec.ofNat 8 e.val, d0 := 1 }) ::
            (f.holderLeaves e (fadeFrames (s.dest (earDest e)).fade)).2))) ∧
    (f.stateTimer ≠ some 0 → exec (.leadExpiry e) s = .next s ∧ exec (.holdExpiry e) s = .next s) ∧
    (f.limitTimer ≠ some 0 → exec (.limitExpiry e) s = .next s)

/-- SET_FOLDBACK stores the seven settings, the duck code raised to the nominal code (R88, R108), and acts on the running
state as R109 says: the bed silenced by a change to NONE, ramped from 0 by a change from NONE, otherwise set anew only where
its target changes; the slot moved in TALK by a changed interrupt code; state, holder, queue and timers kept. -/
def Obligations.SetFoldbackActsOnTheRunningState : Prop :=
  ∀ (s : State) (p : Port) (tag earpiece bed nominal duck interrupt lead hold limit : Byte) (e : Earpiece) (w : Window)
    (b : Option Programme),
    s.spelled p (.setFoldback p earpiece bed nominal duck interrupt lead hold limit) = some tag → earpiece.toNat = e.val →
    bed.toNat = (match b with | none => 255 | some g => 32 + g.val) →
    s.access.governing p (earDest e) = some w → w.listenOnly = false →
    ∃ g : Foldback,
      let f := s.fb e
      let target := if b = none then 0 else if f.state = .idle then gain g.nominal else gain g.duck
      let frames := if f.state = .idle then fadeFrames (s.dest (earDest e)).fade else 48
      exec (.setFoldback p earpiece bed nominal duck interrupt lead hold limit) s =
        .next (((s.endTransaction p).putFb e g).reply p tag
          { outcome := .ok, results := [BitVec.ofNat 8 g.nominal.val, BitVec.ofNat 8 g.duck.val] }) ∧
      g.bedSource = b ∧ g.nominal.val = min 127 nominal.toNat ∧
      g.duck.val = max (min 127 nominal.toNat) (min 127 duck.toNat) ∧ g.interrupt.val = min 127 interrupt.toNat ∧
      g.lead.val = min 20 lead.toNat ∧ g.hold = hold ∧ g.limit = limit ∧
      g.state = f.state ∧ g.holder = f.holder ∧ g.queue = f.queue ∧ g.stateTimer = f.stateTimer ∧
      g.limitTimer = f.limitTimer ∧ g.slotSource = f.slotSource ∧
      (f.bedSource ≠ none → b = none → g.bed.cur = 0 ∧ g.bed.target = 0) ∧
      (f.bedSource = none → b ≠ none → g.bed = f.bed.aim target frames true) ∧
      ((f.bedSource = none ↔ b = none) → f.bed.target = target → g.bed = f.bed) ∧
      ((f.bedSource = none ↔ b = none) → f.bed.target ≠ target → g.bed = f.bed.aim target frames) ∧
      (f.state = .talk → g.interrupt ≠ f.interrupt → g.slot = f.slot.aim (gain g.interrupt) 48) ∧
      (f.state ≠ .talk ∨ g.interrupt = f.interrupt → g.slot = f.slot)

/-- SET_GROUP replaces a group's membership and answers the member count (R112). TALK_GROUP and RELEASE_GROUP visit the
members of the group as it stands in ascending order, apply to each what a single TALK_REQUEST or TALK_RELEASE does there,
with origin GROUP, and answer OK with the number of members and each one's number and outcome (R113, R114). `talkOn` and
`releaseOn` are what the single requests do on one earpiece: a `talkOn` for group g answers as the single request does and
leaves what it leaves, but that the record it makes has the origin g. -/
def Obligations.GroupsVisitTheirMembers : Prop :=
  ∀ (s : State) (p : Port) (tag : Byte) (g : Group) (group : Byte), group.toNat = g.val →
    let u := s.endTransaction p
    let members : List Earpiece := (List.finRange 16).filter fun e => (s.foldback.groups.get g).getLsbD e.val
    let visited : (State → Earpiece → State × Answer) → State × List Byte := fun act =>
      members.foldl (fun (r : State × List Byte) (e : Earpiece) =>
          ((act r.1 e).1, r.2 ++ [BitVec.ofNat 8 e.val, BitVec.ofNat 8 (act r.1 e).2.outcome.code]))
        (u, [BitVec.ofNat 8 members.length])
    (∀ set : BitVec 16, s.spelled p (.setGroup p group set) = some tag → s.access.holder = some p →
      exec (.setGroup p group set) s =
        .next ({ u with foldback := { u.foldback with groups := put u.foldback.groups g set } }.reply p tag
          { outcome := .ok, results := [BitVec.ofNat 8 ((List.finRange 16).countP fun e : Fin 16 => set.getLsbD e.val)] })) ∧
    (∀ (talker : Byte) (x : Talker), s.spelled p (.talkGroup p group talker) = some tag → talker.toNat = x.val →
      exec (.talkGroup p group talker) s =
        .next ((visited fun r e => r.talkOn p e x (some g)).1.reply p tag
          { outcome := .ok, results := (visited fun r e => r.talkOn p e x (some g)).2 })) ∧
    (s.spelled p (.releaseGroup p group) = some tag →
      exec (.releaseGroup p group) s =
        .next ((visited fun r e => r.releaseOn p e).1.reply p tag
          { outcome := .ok, results := (visited fun r e => r.releaseOn p e).2 })) ∧
    (∀ (earpiece talker : Byte) (e : Earpiece) (x : Talker), s.spelled p (.talkRequest p earpiece talker) = some tag →
      earpiece.toNat = e.val → talker.toNat = x.val →
      exec (.talkRequest p earpiece talker) s = .next ((u.talkOn p e x none).1.reply p tag (u.talkOn p e x none).2)) ∧
    (∀ (earpiece : Byte) (e : Earpiece), s.spelled p (.talkRelease p earpiece) = some tag → earpiece.toNat = e.val →
      exec (.talkRelease p earpiece) s = .next ((u.releaseOn p e).1.reply p tag (u.releaseOn p e).2)) ∧
    ∀ (r : State) (e : Earpiece) (x : Talker),
      let single := r.talkOn p e x none
      let f := single.1.fb e
      let forGroup : TalkRec → TalkRec := fun t => if t.port = p then { t with origin := some g } else t
      (r.talkOn p e x (some g)).2 = single.2 ∧
      (single.2.outcome = .ok ∨ single.2.outcome = .queued → (∃ t ∈ f.records, t.port = p ∧ t.origin = none) ∧
        (r.talkOn p e x (some g)).1 =
          single.1.putFb e { f with holder := f.holder.map forGroup, queue := f.queue.map forGroup }) ∧
      (single.2.outcome ≠ .ok → single.2.outcome ≠ .queued → single.1 = r ∧ (r.talkOn p e x (some g)).1 = r)

/-! ### Earpiece identification and profiles (06) -/

/-- IDENTIFY is refused BUSY while a probe runs (R124). An admitted IDENTIFY, and a debounce timer that has run down on a
PRESENT or ABSENT earpiece (R123), start a probe: PROBING, no steps read, B0 driven, 96 frames on the settle timer, the
debounce timer stopped, the ID, rest reading and profile kept, and the gate of an earpiece that leaves PRESENT at 0 with
target 0 (R119, R130). BUSY and ACCEPTED have no result by the model's reading (log entry 11), and the gate's step is the
model's too (log entry 21). -/
def Obligations.ProbesStart : Prop :=
  ∀ (s : State) (e : Earpiece),
    let started : State → State := fun r =>
      let v := r.putAcc e { r.acc e with
        state := .probing, readings := [], debounce := none, bias := some 0, settle := some 96 }
      if (r.acc e).state = .present then v.putGate e { cur := 0, target := 0, step := 0 } else v
    (∀ (p : Port) (tag earpiece : Byte) (w : Window), s.spelled p (.identify p earpiece) = some tag →
      earpiece.toNat = e.val → s.access.governing p (earDest e) = some w → w.listenOnly = false →
      ((s.acc e).state = .probing → exec (.identify p earpiece) s =
        .next ((s.endTransaction p).reply p tag { outcome := .busy })) ∧
      ((s.acc e).state ≠ .probing → exec (.identify p earpiece) s =
        .next ((started (s.endTransaction p)).reply p tag { outcome := .accepted }))) ∧
    ((s.acc e).debounce = some 0 → (s.acc e).state = .present ∨ (s.acc e).state = .absent →
      exec (.debounceExpiry e) s = .next (started s))

/-- Each expiry of the settle timer reads the contacts under the bias being driven: the first three readings drive the next
bias and restart the timer with 96 frames (R120). The fourth completes the probe (R121): the ID is assembled, the rest reading
is the fourth reading; 0xFFF gives ABSENT with profile 0, any other ID PRESENT with the looked-up profile and a gate opening
over 48 frames; the debounce timer runs at once where the reading under B3 already differs (R123); one ACCESSORY notice goes
to every covering port (R126). -/
def Obligations.ProbesStepAndComplete : Prop :=
  ∀ (s : State) (e : Earpiece) (b : Fin 4), (s.acc e).state = .probing → (s.acc e).settle = some 0 →
    (s.acc e).bias = some b →
    let a := s.acc e
    let r := a.sense.get b
    (∀ b' : Fin 4, a.readings.length < 3 → b'.val = a.readings.length + 1 →
      exec (.settleTimerExpiry e) s =
        .next (s.putAcc e { a with readings := a.readings ++ [r], bias := some b', settle := some 96 })) ∧
    ∀ r0 r1 r2, a.readings = [r0, r1, r2] →
      let digit : Nat → Nat := fun k =>
        8 * (r0.getLsbD k).toNat + 4 * (r1.getLsbD k).toNat + 2 * (r2.getLsbD k).toNat + (r.getLsbD k).toNat
      let id : BitVec 12 := BitVec.ofNat 12 (256 * digit 2 + 16 * digit 1 + digit 0)
      let done : Accessory :=
        { a with id := id, rest := r, readings := [], settle := none,
                 state := if id = 0xFFF then .absent else .present,
                 profile := if id = 0xFFF then 0 else lookup s.ident.profiles id,
                 debounce := if a.sense.get 3 = r then none else some 960 }
      let v := s.putAcc e done
      let v' := if id = 0xFFF then v else v.putGate e ((s.gate e).aim 65536 48)
      exec (.settleTimerExpiry e) s =
        .next (v'.postAll (((List.finRange 4).filter fun p => s.access.covers p (earDest e)).map fun p =>
          (p, { kind := .accessory, subject := BitVec.ofNat 8 e.val, d0 := BitVec.ofNat 8 (id.toNat / 256),
                d1 := BitVec.ofNat 8 id.toNat, d2 := done.state.code, d3 := BitVec.ofNat 8 done.profile.val })))

/-- Plug detect, while an earpiece is PRESENT or ABSENT: a reading under B3 that differs from the rest reading starts the
debounce timer with 960 frames where it is stopped and leaves a running one alone; a return to the rest reading stops it
(R123). In PROBING and UNKNOWN nothing is watched. That a change names the answers under all four biases is the model's (log
entry 8). -/
def Obligations.PlugDetectWatchesTheContacts : Prop :=
  ∀ (s : State) (e : Earpiece) (b0 b1 b2 b3 : Contacts),
    let a := { s.acc e with sense := #v[b0, b1, b2, b3] }
    ((s.acc e).state = .probing ∨ (s.acc e).state = .unknown →
      exec (.contactReadingChange e b0 b1 b2 b3) s = .next (s.putAcc e a)) ∧
    ((s.acc e).state = .present ∨ (s.acc e).state = .absent →
      (b3 = (s.acc e).rest → exec (.contactReadingChange e b0 b1 b2 b3) s = .next (s.putAcc e { a with debounce := none })) ∧
      (b3 ≠ (s.acc e).rest → (s.acc e).debounce = none →
        exec (.contactReadingChange e b0 b1 b2 b3) s = .next (s.putAcc e { a with debounce := some 960 })) ∧
      (b3 ≠ (s.acc e).rest → (s.acc e).debounce ≠ none →
        exec (.contactReadingChange e b0 b1 b2 b3) s = .next (s.putAcc e a)))

/-- SET_PROFILE from the holder stores the profile, profile 0 keeping its valid switch and match ID; every PRESENT earpiece is
looked up afresh: the lowest valid profile from 1 to 7 with its ID, otherwise profile 0 (R127); the reply counts the earpieces
whose index changed, and each raises one ACCESSORY notice, in ascending order (R128). -/
def Obligations.SetProfileLooksUpAfresh : Prop :=
  (∀ (t : Vector Profile 8) (id : BitVec 12),
    let hit : ProfileIx → Prop := fun i => i ≠ 0 ∧ (t.get i).valid = true ∧ (t.get i).matchId = id
    ((∃ i, hit i) → hit (lookup t id) ∧ ∀ j, j < lookup t id → ¬ hit j) ∧ ((∀ i, ¬ hit i) → lookup t id = 0)) ∧
  ∀ (s : State) (p : Port) (tag index valid ceiling ear : Byte) (matchId : BitVec 16) (i : ProfileIx) (m : EarMode) (c : Level),
    s.spelled p (.setProfile p index valid matchId ceiling ear) = some tag → s.access.holder = some p →
    index.toNat = i.val → ear = m.code → c.val = min 127 ceiling.toNat →
    ∃ (t : Vector Profile 8) (accs : Vector Accessory 16),
      let moved := (List.finRange 16).filter fun e => decide ((accs.get e).profile ≠ (s.acc e).profile)
      (∀ j, j ≠ i → t.get j = s.ident.profiles.get j) ∧
      (t.get i).ceiling = c ∧ (t.get i).ear = m ∧
      (i ≠ 0 → (t.get i).valid = decide (valid ≠ 0) ∧ (t.get i).matchId.toNat = matchId.toNat % 4096) ∧
      (i = 0 → (t.get i).valid = (s.ident.profiles.get 0).valid ∧ (t.get i).matchId = (s.ident.profiles.get 0).matchId) ∧
      (∀ e, (s.acc e).state = .present → accs.get e = { s.acc e with profile := lookup t (s.acc e).id }) ∧
      (∀ e, (s.acc e).state ≠ .present → accs.get e = s.acc e) ∧
      exec (.setProfile p index valid matchId ceiling ear) s =
        .next (({ s.endTransaction p with ident := { accs := accs, profiles := t } }.postAll
          (moved.flatMap fun e => ((List.finRange 4).filter fun q => s.access.covers q (earDest e)).map fun q =>
            (q, { kind := .accessory, subject := BitVec.ofNat 8 e.val, d0 := BitVec.ofNat 8 ((s.acc e).id.toNat / 256),
                  d1 := BitVec.ofNat 8 (s.acc e).id.toNat, d2 := (s.acc e).state.code,
                  d3 := BitVec.ofNat 8 (accs.get e).profile.val }))).reply p tag
          { outcome := .ok, results := [BitVec.ofNat 8 moved.length] })

/-! ### Field lines (07) -/

/-- A change of a line's state stores its cause, raises FIELD_STATE to every port that covers the line's return, and reports
the tracked line's entry into LOCKED or exit from it to the reference unit in the same event, after the notice (R153, R154):
an entry makes the field stability SETTLING for 4,800 frames, an exit makes it ABSENT, and the exit of the active line makes
CRYSTAL active (R157, R162). -/
def Obligations.LineChangesAreReported : Prop :=
  ∀ (s : State) (k : Line) (l : LineRec) (cause : LineCause),
    let v := (s.putLine k { l with lastCause := cause }).postAll
      (((List.finRange 4).filter fun p => s.access.covers p (lineDest k)).map fun p =>
        (p, { kind := .fieldState, subject := BitVec.ofNat 8 k.val, d0 := l.state.code, d1 := cause.code }))
    let r := s.reference
    let left := { r with field := .absent, fieldSettle := none }
    (r.tracked ≠ some k ∨ ((s.line k).state = .locked ↔ l.state = .locked) → s.changeLine k l cause = v) ∧
    (r.tracked = some k → (s.line k).state ≠ .locked → l.state = .locked →
      s.changeLine k l cause = { v with reference := { r with field := .settling, fieldSettle := some 4800 } }) ∧
    (r.tracked = some k → (s.line k).state = .locked → l.state ≠ .locked →
      (r.active ≠ .field k → s.changeLine k l cause = { v with reference := left }) ∧
      (r.active = .field k →
        let lost := { left with active := .crystal, state := if r.state = .steady then .holdover else r.state }
        s.changeLine k l cause = { v with reference := lost }.postAll ((List.finRange 4).map fun p =>
          (p, { kind := .reference, subject := 0, d0 := 1, d1 := r.selected.code, d2 := lost.state.code, d3 := 5 }))))

/-- FIELD_START brings an IDLE or PARKED line to ACQUIRING with cleared slip counts and its acquire limit on the timer, and is
refused STATE with the line's state in the other four (R135). FIELD_STOP and FIELD_PARK are refused STATE with REFERENCE on
the active reference line; otherwise they empty the line, stop its timer and take it to IDLE or PARKED, FIELD_PARK refusing an
IDLE line, and change nothing on a line already there (R136, R137). What `changeLine` does besides storing the record is the
statement LineChangesAreReported. Replies without a stated result have length 0 by the model's reading (log entry 11). -/
def Obligations.FieldLinesStartStopAndPark : Prop :=
  ∀ (s : State) (p : Port) (tag line : Byte) (k : Line) (w : Window), line.toNat = k.val →
    s.access.governing p (lineDest k) = some w → w.listenOnly = false →
    let u := s.endTransaction p
    let l := s.line k
    let emptied := { l with buffer := [], replay := [], quietRun := 0, delivered := none, timer := none }
    (s.spelled p (.fieldStart p line) = some tag →
      (l.state = .idle ∨ l.state = .parked → exec (.fieldStart p line) s =
        .next ((u.changeLine k { emptied with state := .acquiring, quietSlips := 0, forcedSlips := 0,
                                              timer := some (48000 * l.acquire) } .start).reply p tag { outcome := .accepted })) ∧
      (l.state ≠ .idle → l.state ≠ .parked → exec (.fieldStart p line) s =
        .next (u.reply p tag { outcome := .state, results := [l.state.code] }))) ∧
    (s.spelled p (.fieldStop p line) = some tag →
      (s.reference.active = .field k → exec (.fieldStop p line) s =
        .next (u.reply p tag { outcome := .state, results := [0x80] })) ∧
      (s.reference.active ≠ .field k → l.state = .idle → exec (.fieldStop p line) s =
        .next (u.reply p tag { outcome := .ok })) ∧
      (s.reference.active ≠ .field k → l.state ≠ .idle → exec (.fieldStop p line) s =
        .next ((u.changeLine k { emptied with state := .idle } .stop).reply p tag { outcome := .ok }))) ∧
    (s.spelled p (.fieldPark p line) = some tag →
      (s.reference.active = .field k → exec (.fieldPark p line) s =
        .next (u.reply p tag { outcome := .state, results := [0x80] })) ∧
      (s.reference.active ≠ .field k → l.state = .idle → exec (.fieldPark p line) s =
        .next (u.reply p tag { outcome := .state, results := [0] })) ∧
      (s.reference.active ≠ .field k → l.state = .parked → exec (.fieldPark p line) s =
        .next (u.reply p tag { outcome := .ok })) ∧
      (s.reference.active ≠ .field k → l.state ≠ .idle → l.state ≠ .parked → exec (.fieldPark p line) s =
        .next ((u.changeLine k { emptied with state := .parked } .park).reply p tag { outcome := .ok })))

/-- The events of a line: a lock in ACQUIRING (R139), a lock loss and a stall in CENTERING and LOCKED (R142), the acquire
expiry in ACQUIRING (R140), the retry expiry in LOST (R143), a call on a PARKED line with and without auto-wake (R144). Each
is ignored in every other state (R133); a timer's expiry occurs only where the timer has run down (log entry 4). -/
def Obligations.FieldLineEventsMoveTheLine : Prop :=
  ∀ (s : State) (k : Line),
    let l := s.line k
    let emptied := { l with buffer := [], replay := [], quietRun := 0, delivered := none }
    let acquiring := { l with state := .acquiring, timer := some (48000 * l.acquire) }
    let lost := { emptied with state := .lost, timer := some 24000 }
    let called := s.postAll (((List.finRange 4).filter fun p => s.access.covers p (lineDest k)).map fun p =>
      (p, { kind := .fieldCall, subject := BitVec.ofNat 8 k.val }))
    (l.state = .acquiring → exec (.receiverLock k) s =
      .next (s.changeLine k { emptied with state := .centering, timer := some 96 } .lock)) ∧
    (l.state ≠ .acquiring → exec (.receiverLock k) s = .next s) ∧
    (l.state = .centering ∨ l.state = .locked →
      exec (.receiverLockLoss k) s = .next (s.changeLine k lost .lockLoss) ∧
      (l.timer = some 0 → exec (.stallExpiry k) s = .next (s.changeLine k lost .stall))) ∧
    (l.state ≠ .centering → l.state ≠ .locked →
      exec (.receiverLockLoss k) s = .next s ∧ exec (.stallExpiry k) s = .next s) ∧
    (l.state = .acquiring → l.timer = some 0 → exec (.acquireExpiry k) s =
      .next (s.changeLine k { l with state := .parked, timer := none } .noLock)) ∧
    (l.state ≠ .acquiring → exec (.acquireExpiry k) s = .next s) ∧
    (l.state = .lost → l.timer = some 0 → exec (.retryExpiry k) s = .next (s.changeLine k acquiring .retry)) ∧
    (l.state ≠ .lost → exec (.retryExpiry k) s = .next s) ∧
    (l.timer ≠ some 0 → exec (.stallExpiry k) s = .next s ∧ exec (.acquireExpiry k) s = .next s ∧
      exec (.retryExpiry k) s = .next s) ∧
    (l.state = .parked → l.autoWake = false → exec (.fieldCall k) s = .next called) ∧
    (l.state = .parked → l.autoWake = true → exec (.fieldCall k) s = .next (called.changeLine k acquiring .wake)) ∧
    (l.state ≠ .parked → exec (.fieldCall k) s = .next s)

/-- Writes and reads of the elastic buffer. A write appends at the tail and restarts the stall timer with 96 frames (R139); in
CENTERING the write that brings the fill to D/2 makes the line LOCKED (R141). In LOCKED a write that brings the fill to 3D/4
drops the U oldest samples, and a read that brings it to D/4 puts the U last delivered samples back at the head: forced slips
(R147). A read delivers the head, keeps it in the replay store and counts the quiet run (R146, R148). The write of the active
reference line and its read are one event without slips (R150). The premises on the fill and on the replay store hold in every
state of `LineRec.Sound`. -/
def Obligations.FieldBufferFollowsWritesAndReads : Prop :=
  ∀ (s : State) (k : Line) (x : Sample),
    let l := s.line k
    let d := 256 * 2 ^ l.depth.toNat
    let unit := 8 * 2 ^ l.depth.toNat
    let written := { l with buffer := l.buffer ++ [x], timer := some 96 }
    let threshold := scale 8388607 (gain l.quiet)
    let delivering : LineRec → Sample → LineRec := fun l y =>
      { l with delivered := some y, replay := (l.replay ++ [y]).drop (l.replay.length + 1 - 64),
               quietRun := if (y.toInt.natAbs : Int) < threshold then min (l.quietRun + 1) 480 else 0 }
    (s.reference.active ≠ .field k →
      (l.state = .centering → l.buffer.length + 1 ≠ d / 2 → exec (.fieldWrite k x) s = .next (s.putLine k written)) ∧
      (l.state = .centering → l.buffer.length + 1 = d / 2 → exec (.fieldWrite k x) s =
        .next (s.changeLine k { written with state := .locked, quietRun := 0, replay := [] } .centred)) ∧
      (l.state = .locked → d / 4 < l.buffer.length + 1 → l.buffer.length + 1 < 3 * (d / 4) →
        exec (.fieldWrite k x) s = .next (s.putLine k written)) ∧
      (l.state = .locked → l.buffer.length + 1 = 3 * (d / 4) → exec (.fieldWrite k x) s =
        .next (s.putLine k { written with
          buffer := (l.buffer ++ [x]).drop unit, quietRun := 0, forcedSlips := min (l.forcedSlips + 1) 65535 })) ∧
      (∀ y rest, l.state = .locked → l.buffer = y :: rest → d / 4 < rest.length → rest.length < 3 * (d / 4) →
        let r := delivering { l with buffer := rest } y
        let owed := ((rest.length : Int) - (d / 2 : Nat)).tdiv unit
        (r.quietRun ≠ 480 ∨ owed = 0 → exec (.fieldRead k) s = .next (s.putLine k r)) ∧
        (r.quietRun = 480 → 0 < owed → exec (.fieldRead k) s =
          .next (s.putLine k { r with
            buffer := rest.drop unit, quietRun := 0, quietSlips := min (l.quietSlips + 1) 65535 })) ∧
        (r.quietRun = 480 → owed < 0 → unit ≤ r.replay.length →
          ∀ older newest, r.replay = older ++ newest → newest.length = unit → exec (.fieldRead k) s =
            .next (s.putLine k { r with
              buffer := newest ++ rest, replay := older, quietRun := 0, quietSlips := min (l.quietSlips + 1) 65535 }))) ∧
      (∀ y rest older newest, l.state = .locked → l.buffer = y :: rest → rest.length = d / 4 →
        let r := delivering { l with buffer := rest } y
        r.replay = older ++ newest → newest.length = unit → exec (.fieldRead k) s =
          .next (s.putLine k { r with
            buffer := newest ++ rest, replay := older, quietRun := 0, forcedSlips := min (l.forcedSlips + 1) 65535 })) ∧
      (l.state ≠ .centering → l.state ≠ .locked →
        exec (.fieldWrite k x) s = .next s ∧ exec (.fieldRead k) s = .next s)) ∧
    ∀ y rest, s.reference.active = .field k → l.state = .locked → l.buffer ++ [x] = y :: rest →
      exec (.activeReferenceSample k x) s = .next (s.putLine k (delivering { written with buffer := rest } y))

/-- SET_FIELD_PLAN from the holder: refused STATE with the line's state while the line is up, and FULL with DEPTH where the
eight depths would exceed 8,192; otherwise the plan is stored, masked and clamped, and the unused depth answered in two bytes
(R10, R151). -/
def Obligations.FieldPlansKeepTheDepthBudget : Prop :=
  ∀ (s : State) (p : Port) (tag line depth quiet autoWake acquire : Byte) (k : Line),
    s.spelled p (.setFieldPlan p line depth quiet autoWake acquire) = some tag → s.access.holder = some p →
    line.toNat = k.val →
    let u := s.endTransaction p
    let l := s.line k
    let total := ((List.finRange 8).map fun j =>
      if j = k then 256 * 2 ^ (depth.toNat % 4) else 256 * 2 ^ (s.line j).depth.toNat).sum
    let answered : Answer → Prop := fun a =>
      exec (.setFieldPlan p line depth quiet autoWake acquire) s = .next (u.reply p tag a)
    (l.state ≠ .idle → l.state ≠ .parked → answered { outcome := .state, results := [l.state.code] }) ∧
    (l.state = .idle ∨ l.state = .parked →
      (8192 < total → answered { outcome := .full, results := [4] }) ∧
      (total ≤ 8192 → ∃ l' : LineRec,
        exec (.setFieldPlan p line depth quiet autoWake acquire) s =
          .next ((u.putLine k l').reply p tag
            { outcome := .ok, results := [BitVec.ofNat 8 ((8192 - total) / 256), BitVec.ofNat 8 (8192 - total)] }) ∧
        l'.depth.toNat = depth.toNat % 4 ∧ l'.quiet.val = min 127 quiet.toNat ∧ l'.autoWake = decide (autoWake ≠ 0) ∧
        l'.acquire = max 1 (min 60 acquire.toNat) ∧
        l' = { l with depth := l'.depth, quiet := l'.quiet, autoWake := l'.autoWake, acquire := l'.acquire }))

/-! ### Reference clock (08) -/

/-- SELECT_REFERENCE from the holder (R159, R160). A choice of another field line than the active one is refused STATE with
the active line. A choice of a field line retunes the loop first, unless it follows that line already (R157). The choice is
then judged: the active source gives STEADY, with a notice where the selected source or the state changed; a STABLE one
becomes active with SELECTED; any other makes the record SWITCHING with 96,000 frames on the deadline, answered ACCEPTED with
PENDING. R160 makes a STABLE choice active at the next frame boundary: that the record and the reply name it active in the
event itself is the model's reading (log entry 9). -/
def Obligations.SelectReferenceIsJudged : Prop :=
  ∀ (s : State) (p : Port) (tag choice : Byte) (x : RefSource), s.spelled p (.selectReference p choice) = some tag →
    s.access.holder = some p → choice = x.code →
    let u := s.endTransaction p
    let r := s.reference
    let tuned : RefUnit :=
      match x with
      | .field j =>
        if r.tracked = some j then r
        else if (s.line j).state = .locked then { r with tracked := some j, field := .settling, fieldSettle := some 4800 }
        else { r with tracked := some j, field := .absent, fieldSettle := none }
      | _ => r
    let stable : Prop :=
      match x with
      | .house => tuned.house = .stable
      | .crystal => True
      | .field j => tuned.tracked = some j ∧ tuned.field = .stable
    let becomes : RefUnit → ReplyCode → List Byte → Prop := fun r' o causes =>
      exec (.selectReference p choice) s =
        .next (({ u with reference := r' }.postAll (causes.flatMap fun c => (List.finRange 4).map fun q =>
            (q, { kind := .reference, subject := 0, d0 := r'.active.code, d1 := r'.selected.code, d2 := r'.state.code,
                  d3 := c }))).reply p tag
          { outcome := o, results := [r'.active.code, r'.selected.code, r'.state.code] })
    (∀ j k, x = .field j → r.active = .field k → j ≠ k →
      exec (.selectReference p choice) s =
        .next (u.reply p tag { outcome := .state, results := [BitVec.ofNat 8 k.val] })) ∧
    ((∀ j k, x = .field j → r.active = .field k → j = k) →
      (x = r.active →
        becomes { tuned with selected := x, state := .steady, deadline := none } .ok
          (if r.selected = x ∧ r.state = .steady then [] else [1])) ∧
      (x ≠ r.active → stable →
        becomes { tuned with active := x, selected := x, state := .steady, deadline := none } .ok [1]) ∧
      (x ≠ r.active → ¬ stable →
        becomes { tuned with selected := x, state := .switching, deadline := some 96000 } .accepted [2]))

/-- The events of the reference unit: presence and absence at the house input (R156), the two settle timers (R156, R157), the
switch deadline (R161). A source that becomes STABLE while it is selected ends SWITCHING with SWITCHED (R161) and HOLDOVER
with RESTORED (R163); the loss of the active HOUSE makes CRYSTAL active with LOST (R162); an expired deadline makes the active
source the selected one with TIMEOUT. R161 and R163 make the source active at the next frame boundary: that the record names
it active in the event itself is the model's reading (log entry 9). An expiry whose timer has not run down does not occur (log
entry 4). -/
def Obligations.ReferenceEventsMoveTheRecord : Prop :=
  ∀ s : State,
    let r := s.reference
    let becomes : Host.Outcome State Fault Refusal → RefUnit → List Byte → Prop := fun o r' causes =>
      o = .next ({ s with reference := r' }.postAll (causes.flatMap fun c => (List.finRange 4).map fun q =>
        (q, { kind := .reference, subject := 0, d0 := r'.active.code, d1 := r'.selected.code, d2 := r'.state.code, d3 := c })))
    let stableNow : Host.Outcome State Fault Refusal → RefUnit → RefSource → Prop := fun o r' x =>
      (r.selected = x → r.state = .switching →
        becomes o { r' with active := x, state := .steady, deadline := none } [3]) ∧
      (r.selected = x → r.state = .holdover →
        becomes o { r' with active := x, state := .steady, deadline := none } [6]) ∧
      (r.selected ≠ x ∨ r.state = .steady → becomes o r' [])
    let present := { r with houseInput := true }
    let absent := { r with houseInput := false }
    let gone := { absent with house := .absent, houseSettle := none }
    (s.nresetLow = false → r.house = .absent →
      becomes (exec .housePresence s) { present with house := .settling, houseSettle := some 4800 } []) ∧
    (s.nresetLow = true ∨ r.house ≠ .absent → becomes (exec .housePresence s) present []) ∧
    (r.house = .absent → becomes (exec .houseAbsence s) absent []) ∧
    (r.house ≠ .absent → r.active ≠ .house → becomes (exec .houseAbsence s) gone []) ∧
    (r.house ≠ .absent → r.active = .house →
      becomes (exec .houseAbsence s)
        { gone with active := .crystal, state := if r.state = .steady then .holdover else r.state } [5]) ∧
    (r.house = .settling → r.houseSettle = some 0 →
      stableNow (exec .houseSettleExpiry s) { r with house := .stable, houseSettle := none } .house) ∧
    (r.houseSettle ≠ some 0 → exec .houseSettleExpiry s = .next s) ∧
    (∀ k, r.tracked = some k → r.field = .settling → r.fieldSettle = some 0 →
      stableNow (exec .fieldSettleExpiry s) { r with field := .stable, fieldSettle := none } (.field k)) ∧
    (r.fieldSettle ≠ some 0 → exec .fieldSettleExpiry s = .next s) ∧
    (r.state = .switching → r.deadline = some 0 →
      becomes (exec .switchDeadlineExpiry s) { r with selected := r.active, state := .steady, deadline := none } [4]) ∧
    (r.state ≠ .switching ∨ r.deadline ≠ some 0 → exec .switchDeadlineExpiry s = .next s)

/-! ### Invariants that every step keeps -/

/-- A queue never holds more than 16 records, an idle port's data output is released, an incomplete byte has at most 7 bits,
and a port held in reset, or any port while NRESET is asserted, stands as the reset left it (R1, R15, R19, R21). -/
def Obligations.StepKeepsPortsSound : Prop :=
  ∀ s t : State, PortsSound s → step s = .next t → PortsSound t

/-- The pool's free count plus the entries in all lists is 384 (R44); every list holds at most 12 entries, no source twice
(R42), no own source of a field return (R50) and no panel's own source below 40 (R49); every entry's target follows from its
state and level (R45), and no finished fade stands in a list (R54); trims stay within 16,462 to 260,899 (R65, R68). Peaks
never exceed 8,388,608 (R83), panel outputs lie in the 24-bit range (R80), gates never exceed 65,536 (R68). Each of the two
holds on its own. -/
def Obligations.StepKeepsTheRouteStoreAndMixSound : Prop :=
  (∀ s t : State, s.route.Sound → step s = .next t → t.route.Sound) ∧
  ∀ s t : State, s.mix.Sound → step s = .next t → t.mix.Sound

/-- A foldback record has a holder exactly in LEAD and TALK, waiting records only behind a holder, at most 2, in order of
priority and arrival, and no port twice; the timers, the bed target, the duck code and the slot are what its state requires
(R88 to R93). -/
def Obligations.StepKeepsTheFoldbackUnitSound : Prop :=
  ∀ s t : State, s.foldback.Sound → step s = .next t → t.foldback.Sound

/-- An accessory record's timers, bias, debounce, ID, profile and gate are what its state requires; UNKNOWN is the state
exactly while NRESET is asserted; profile 0 stays valid (R117 to R123, R127, R130). -/
def Obligations.StepKeepsTheAccessoriesSound : Prop :=
  ∀ s t : State, PortsSound s ∧ AccessoriesSound s → step s = .next t → PortsSound t ∧ AccessoriesSound t

/-- The fill of a LOCKED line lies strictly between D/4 and 3D/4, a put-back can always be served, only a receiving line holds
samples, and the eight depths sum to at most 8,192 (R132, R133, R147, R151). -/
def Obligations.StepKeepsTheFieldLinesSound : Prop :=
  ∀ s t : State, s.field.Sound → step s = .next t → t.field.Sound

/-- The active reference is never a source that is not STABLE; an active field line is the tracked line and is LOCKED; the
three states of the record are what R158's table says, and the stabilities what R156 and R157 say. -/
def Obligations.StepKeepsTheReferenceSound : Prop :=
  ∀ s t : State, PortsSound s ∧ LinesDownInReset s ∧ ReferenceSound s → step s = .next t →
    PortsSound t ∧ LinesDownInReset t ∧ ReferenceSound t

/-- A port held in port reset holds no authority (R39), has created no ACTIVE MOMENTARY entry (R59) and has no talk record
(R115), in every state that a step reaches from such a state. -/
def Obligations.StepKeepsHeldPortsFromOwning : Prop :=
  ∀ s t : State, PortsSound s ∧ s.foldback.Sound ∧ HeldOwnsNothing s → step s = .next t →
    PortsSound t ∧ t.foldback.Sound ∧ HeldOwnsNothing t
end

