-- ==== Sys2Proof/Laws/State.lean ====
section
/-! SUPPORT. One lemma per field per update of State, true by rfl, and the laws of reading a table after writing it. -/

namespace Sys2Proof.Machine

/-! ### Tables -/

/-- Reading a table is reading its element. -/
theorem get_eq_getElem {α : Type} {n : Nat} (v : Vector α n) (i : Fin n) : v.get i = v[i.val] := rfl

@[simp] theorem get_put_same {α : Type} {n : Nat} (v : Vector α n) (i : Fin n) (x : α) : (put v i x).get i = x := by
  simp only [put, get_eq_getElem, Vector.getElem_set_self]

theorem get_put_ne {α : Type} {n : Nat} (v : Vector α n) {i j : Fin n} (h : j ≠ i) (x : α) :
    (put v i x).get j = v.get j := by
  have h' : i.val ≠ j.val := fun e => h (Fin.ext e.symm)
  simp only [put, get_eq_getElem, Vector.getElem_set_ne _ _ h']

theorem get_put {α : Type} {n : Nat} (v : Vector α n) (i j : Fin n) (x : α) :
    (put v i x).get j = if j = i then x else v.get j := by
  by_cases h : j = i
  · subst h; simp
  · simp [h, get_put_ne v h x]

@[simp] theorem get_remap {α β : Type} {n : Nat} (v : Vector α n) (f : Fin n → α → β) (i : Fin n) :
    (remap v f).get i = f i (v.get i) := by
  simp [remap]

@[simp] theorem get_replicate {α : Type} {n : Nat} (x : α) (i : Fin n) : (Vector.replicate n x).get i = x := by
  simp only [get_eq_getElem, Vector.getElem_replicate]

theorem vector_ext_get {α : Type} {n : Nat} {v w : Vector α n} (h : ∀ i, v.get i = w.get i) : v = w := by
  apply Vector.ext
  intro i hi
  exact h ⟨i, hi⟩

@[simp] theorem put_get {α : Type} {n : Nat} (v : Vector α n) (i : Fin n) : put v i (v.get i) = v := by
  apply vector_ext_get
  intro j
  rw [get_put]
  split
  · next h => rw [h]
  · rfl

@[simp] theorem put_put {α : Type} {n : Nat} (v : Vector α n) (i : Fin n) (x y : α) : put (put v i x) i y = put v i y := by
  apply vector_ext_get
  intro j
  rw [get_put, get_put, get_put]
  split <;> rfl

/-! ### Fields of updates -/

@[simp] theorem putPort_nresetLow (s : State) (p : Port) (r : PortRec) : (s.putPort p r).nresetLow = s.nresetLow := rfl
@[simp] theorem putPort_access (s : State) (p : Port) (r : PortRec) : (s.putPort p r).access = s.access := rfl
@[simp] theorem putPort_route (s : State) (p : Port) (r : PortRec) : (s.putPort p r).route = s.route := rfl
@[simp] theorem putPort_mix (s : State) (p : Port) (r : PortRec) : (s.putPort p r).mix = s.mix := rfl
@[simp] theorem putPort_foldback (s : State) (p : Port) (r : PortRec) : (s.putPort p r).foldback = s.foldback := rfl
@[simp] theorem putPort_ident (s : State) (p : Port) (r : PortRec) : (s.putPort p r).ident = s.ident := rfl
@[simp] theorem putPort_field (s : State) (p : Port) (r : PortRec) : (s.putPort p r).field = s.field := rfl
@[simp] theorem putPort_reference (s : State) (p : Port) (r : PortRec) : (s.putPort p r).reference = s.reference := rfl
@[simp] theorem putPort_pending (s : State) (p : Port) (r : PortRec) : (s.putPort p r).pending = s.pending := rfl

@[simp] theorem putDest_nresetLow (s : State) (d : Dest) (r : DestRec) : (s.putDest d r).nresetLow = s.nresetLow := rfl
@[simp] theorem putDest_ports (s : State) (d : Dest) (r : DestRec) : (s.putDest d r).ports = s.ports := rfl
@[simp] theorem putDest_access (s : State) (d : Dest) (r : DestRec) : (s.putDest d r).access = s.access := rfl
@[simp] theorem putDest_mix (s : State) (d : Dest) (r : DestRec) : (s.putDest d r).mix = s.mix := rfl
@[simp] theorem putDest_foldback (s : State) (d : Dest) (r : DestRec) : (s.putDest d r).foldback = s.foldback := rfl
@[simp] theorem putDest_ident (s : State) (d : Dest) (r : DestRec) : (s.putDest d r).ident = s.ident := rfl
@[simp] theorem putDest_field (s : State) (d : Dest) (r : DestRec) : (s.putDest d r).field = s.field := rfl
@[simp] theorem putDest_reference (s : State) (d : Dest) (r : DestRec) : (s.putDest d r).reference = s.reference := rfl
@[simp] theorem putDest_pending (s : State) (d : Dest) (r : DestRec) : (s.putDest d r).pending = s.pending := rfl

@[simp] theorem putTrim_nresetLow (s : State) (x : Source) (r : Ramp) : (s.putTrim x r).nresetLow = s.nresetLow := rfl
@[simp] theorem putTrim_ports (s : State) (x : Source) (r : Ramp) : (s.putTrim x r).ports = s.ports := rfl
@[simp] theorem putTrim_access (s : State) (x : Source) (r : Ramp) : (s.putTrim x r).access = s.access := rfl
@[simp] theorem putTrim_mix (s : State) (x : Source) (r : Ramp) : (s.putTrim x r).mix = s.mix := rfl
@[simp] theorem putTrim_foldback (s : State) (x : Source) (r : Ramp) : (s.putTrim x r).foldback = s.foldback := rfl
@[simp] theorem putTrim_ident (s : State) (x : Source) (r : Ramp) : (s.putTrim x r).ident = s.ident := rfl
@[simp] theorem putTrim_field (s : State) (x : Source) (r : Ramp) : (s.putTrim x r).field = s.field := rfl
@[simp] theorem putTrim_reference (s : State) (x : Source) (r : Ramp) : (s.putTrim x r).reference = s.reference := rfl
@[simp] theorem putTrim_pending (s : State) (x : Source) (r : Ramp) : (s.putTrim x r).pending = s.pending := rfl

@[simp] theorem putGate_nresetLow (s : State) (e : Earpiece) (r : Ramp) : (s.putGate e r).nresetLow = s.nresetLow := rfl
@[simp] theorem putGate_ports (s : State) (e : Earpiece) (r : Ramp) : (s.putGate e r).ports = s.ports := rfl
@[simp] theorem putGate_access (s : State) (e : Earpiece) (r : Ramp) : (s.putGate e r).access = s.access := rfl
@[simp] theorem putGate_route (s : State) (e : Earpiece) (r : Ramp) : (s.putGate e r).route = s.route := rfl
@[simp] theorem putGate_foldback (s : State) (e : Earpiece) (r : Ramp) : (s.putGate e r).foldback = s.foldback := rfl
@[simp] theorem putGate_ident (s : State) (e : Earpiece) (r : Ramp) : (s.putGate e r).ident = s.ident := rfl
@[simp] theorem putGate_field (s : State) (e : Earpiece) (r : Ramp) : (s.putGate e r).field = s.field := rfl
@[simp] theorem putGate_reference (s : State) (e : Earpiece) (r : Ramp) : (s.putGate e r).reference = s.reference := rfl
@[simp] theorem putGate_pending (s : State) (e : Earpiece) (r : Ramp) : (s.putGate e r).pending = s.pending := rfl

@[simp] theorem putFb_nresetLow (s : State) (e : Earpiece) (f : Foldback) : (s.putFb e f).nresetLow = s.nresetLow := rfl
@[simp] theorem putFb_ports (s : State) (e : Earpiece) (f : Foldback) : (s.putFb e f).ports = s.ports := rfl
@[simp] theorem putFb_access (s : State) (e : Earpiece) (f : Foldback) : (s.putFb e f).access = s.access := rfl
@[simp] theorem putFb_route (s : State) (e : Earpiece) (f : Foldback) : (s.putFb e f).route = s.route := rfl
@[simp] theorem putFb_mix (s : State) (e : Earpiece) (f : Foldback) : (s.putFb e f).mix = s.mix := rfl
@[simp] theorem putFb_ident (s : State) (e : Earpiece) (f : Foldback) : (s.putFb e f).ident = s.ident := rfl
@[simp] theorem putFb_field (s : State) (e : Earpiece) (f : Foldback) : (s.putFb e f).field = s.field := rfl
@[simp] theorem putFb_reference (s : State) (e : Earpiece) (f : Foldback) : (s.putFb e f).reference = s.reference := rfl
@[simp] theorem putFb_pending (s : State) (e : Earpiece) (f : Foldback) : (s.putFb e f).pending = s.pending := rfl

@[simp] theorem putAcc_nresetLow (s : State) (e : Earpiece) (a : Accessory) : (s.putAcc e a).nresetLow = s.nresetLow := rfl
@[simp] theorem putAcc_ports (s : State) (e : Earpiece) (a : Accessory) : (s.putAcc e a).ports = s.ports := rfl
@[simp] theorem putAcc_access (s : State) (e : Earpiece) (a : Accessory) : (s.putAcc e a).access = s.access := rfl
@[simp] theorem putAcc_route (s : State) (e : Earpiece) (a : Accessory) : (s.putAcc e a).route = s.route := rfl
@[simp] theorem putAcc_mix (s : State) (e : Earpiece) (a : Accessory) : (s.putAcc e a).mix = s.mix := rfl
@[simp] theorem putAcc_foldback (s : State) (e : Earpiece) (a : Accessory) : (s.putAcc e a).foldback = s.foldback := rfl
@[simp] theorem putAcc_field (s : State) (e : Earpiece) (a : Accessory) : (s.putAcc e a).field = s.field := rfl
@[simp] theorem putAcc_reference (s : State) (e : Earpiece) (a : Accessory) : (s.putAcc e a).reference = s.reference := rfl
@[simp] theorem putAcc_pending (s : State) (e : Earpiece) (a : Accessory) : (s.putAcc e a).pending = s.pending := rfl

@[simp] theorem putLine_nresetLow (s : State) (k : Line) (l : LineRec) : (s.putLine k l).nresetLow = s.nresetLow := rfl
@[simp] theorem putLine_ports (s : State) (k : Line) (l : LineRec) : (s.putLine k l).ports = s.ports := rfl
@[simp] theorem putLine_access (s : State) (k : Line) (l : LineRec) : (s.putLine k l).access = s.access := rfl
@[simp] theorem putLine_route (s : State) (k : Line) (l : LineRec) : (s.putLine k l).route = s.route := rfl
@[simp] theorem putLine_mix (s : State) (k : Line) (l : LineRec) : (s.putLine k l).mix = s.mix := rfl
@[simp] theorem putLine_foldback (s : State) (k : Line) (l : LineRec) : (s.putLine k l).foldback = s.foldback := rfl
@[simp] theorem putLine_ident (s : State) (k : Line) (l : LineRec) : (s.putLine k l).ident = s.ident := rfl
@[simp] theorem putLine_reference (s : State) (k : Line) (l : LineRec) : (s.putLine k l).reference = s.reference := rfl
@[simp] theorem putLine_pending (s : State) (k : Line) (l : LineRec) : (s.putLine k l).pending = s.pending := rfl

@[simp] theorem endTransaction_nresetLow (s : State) (p : Port) : (s.endTransaction p).nresetLow = s.nresetLow := rfl
@[simp] theorem endTransaction_access (s : State) (p : Port) : (s.endTransaction p).access = s.access := rfl
@[simp] theorem endTransaction_route (s : State) (p : Port) : (s.endTransaction p).route = s.route := rfl
@[simp] theorem endTransaction_mix (s : State) (p : Port) : (s.endTransaction p).mix = s.mix := rfl
@[simp] theorem endTransaction_foldback (s : State) (p : Port) : (s.endTransaction p).foldback = s.foldback := rfl
@[simp] theorem endTransaction_ident (s : State) (p : Port) : (s.endTransaction p).ident = s.ident := rfl
@[simp] theorem endTransaction_field (s : State) (p : Port) : (s.endTransaction p).field = s.field := rfl
@[simp] theorem endTransaction_reference (s : State) (p : Port) : (s.endTransaction p).reference = s.reference := rfl
@[simp] theorem endTransaction_pending (s : State) (p : Port) : (s.endTransaction p).pending = s.pending := rfl

@[simp] theorem reply_nresetLow (s : State) (p : Port) (tag : Byte) (a : Answer) : (s.reply p tag a).nresetLow = s.nresetLow := rfl
@[simp] theorem reply_access (s : State) (p : Port) (tag : Byte) (a : Answer) : (s.reply p tag a).access = s.access := rfl
@[simp] theorem reply_route (s : State) (p : Port) (tag : Byte) (a : Answer) : (s.reply p tag a).route = s.route := rfl
@[simp] theorem reply_mix (s : State) (p : Port) (tag : Byte) (a : Answer) : (s.reply p tag a).mix = s.mix := rfl
@[simp] theorem reply_foldback (s : State) (p : Port) (tag : Byte) (a : Answer) : (s.reply p tag a).foldback = s.foldback := rfl
@[simp] theorem reply_ident (s : State) (p : Port) (tag : Byte) (a : Answer) : (s.reply p tag a).ident = s.ident := rfl
@[simp] theorem reply_field (s : State) (p : Port) (tag : Byte) (a : Answer) : (s.reply p tag a).field = s.field := rfl
@[simp] theorem reply_reference (s : State) (p : Port) (tag : Byte) (a : Answer) : (s.reply p tag a).reference = s.reference := rfl
@[simp] theorem reply_pending (s : State) (p : Port) (tag : Byte) (a : Answer) : (s.reply p tag a).pending = s.pending := rfl

@[simp] theorem setHolder_nresetLow (s : State) (h : Option Port) : (s.setHolder h).nresetLow = s.nresetLow := rfl
@[simp] theorem setHolder_ports (s : State) (h : Option Port) : (s.setHolder h).ports = s.ports := rfl
@[simp] theorem setHolder_route (s : State) (h : Option Port) : (s.setHolder h).route = s.route := rfl
@[simp] theorem setHolder_mix (s : State) (h : Option Port) : (s.setHolder h).mix = s.mix := rfl
@[simp] theorem setHolder_foldback (s : State) (h : Option Port) : (s.setHolder h).foldback = s.foldback := rfl
@[simp] theorem setHolder_ident (s : State) (h : Option Port) : (s.setHolder h).ident = s.ident := rfl
@[simp] theorem setHolder_field (s : State) (h : Option Port) : (s.setHolder h).field = s.field := rfl
@[simp] theorem setHolder_reference (s : State) (h : Option Port) : (s.setHolder h).reference = s.reference := rfl
@[simp] theorem setHolder_pending (s : State) (h : Option Port) : (s.setHolder h).pending = s.pending := rfl

/-! ### Records of updates -/

@[simp] theorem port_putPort_same (s : State) (p : Port) (r : PortRec) : (s.putPort p r).port p = r := by simp [State.putPort, State.port]

theorem port_putPort (s : State) (p j : Port) (r : PortRec) : (s.putPort p r).port j = if j = p then r else s.port j := by
  simp [State.putPort, State.port, get_put]

@[simp] theorem dest_putDest_same (s : State) (d : Dest) (r : DestRec) : (s.putDest d r).dest d = r := by simp [State.putDest, State.dest]

theorem dest_putDest (s : State) (d j : Dest) (r : DestRec) : (s.putDest d r).dest j = if j = d then r else s.dest j := by
  simp [State.putDest, State.dest, get_put]

@[simp] theorem trim_putTrim_same (s : State) (x : Source) (r : Ramp) : (s.putTrim x r).trim x = r := by simp [State.putTrim, State.trim]

theorem trim_putTrim (s : State) (x j : Source) (r : Ramp) : (s.putTrim x r).trim j = if j = x then r else s.trim j := by
  simp [State.putTrim, State.trim, get_put]

@[simp] theorem gate_putGate_same (s : State) (e : Earpiece) (r : Ramp) : (s.putGate e r).gate e = r := by simp [State.putGate, State.gate]

theorem gate_putGate (s : State) (e j : Earpiece) (r : Ramp) : (s.putGate e r).gate j = if j = e then r else s.gate j := by
  simp [State.putGate, State.gate, get_put]

@[simp] theorem fb_putFb_same (s : State) (e : Earpiece) (f : Foldback) : (s.putFb e f).fb e = f := by simp [State.putFb, State.fb]

theorem fb_putFb (s : State) (e j : Earpiece) (f : Foldback) : (s.putFb e f).fb j = if j = e then f else s.fb j := by
  simp [State.putFb, State.fb, get_put]

@[simp] theorem acc_putAcc_same (s : State) (e : Earpiece) (a : Accessory) : (s.putAcc e a).acc e = a := by simp [State.putAcc, State.acc]

theorem acc_putAcc (s : State) (e j : Earpiece) (a : Accessory) : (s.putAcc e a).acc j = if j = e then a else s.acc j := by
  simp [State.putAcc, State.acc, get_put]

@[simp] theorem line_putLine_same (s : State) (k : Line) (l : LineRec) : (s.putLine k l).line k = l := by simp [State.putLine, State.line]

theorem line_putLine (s : State) (k j : Line) (l : LineRec) : (s.putLine k l).line j = if j = k then l else s.line j := by
  simp [State.putLine, State.line, get_put]

@[simp] theorem dest_putPort (s : State) (p : Port) (r : PortRec) (j : Dest) : (s.putPort p r).dest j = s.dest j := rfl
@[simp] theorem trim_putPort (s : State) (p : Port) (r : PortRec) (j : Source) : (s.putPort p r).trim j = s.trim j := rfl
@[simp] theorem gate_putPort (s : State) (p : Port) (r : PortRec) (j : Earpiece) : (s.putPort p r).gate j = s.gate j := rfl
@[simp] theorem fb_putPort (s : State) (p : Port) (r : PortRec) (j : Earpiece) : (s.putPort p r).fb j = s.fb j := rfl
@[simp] theorem acc_putPort (s : State) (p : Port) (r : PortRec) (j : Earpiece) : (s.putPort p r).acc j = s.acc j := rfl
@[simp] theorem line_putPort (s : State) (p : Port) (r : PortRec) (j : Line) : (s.putPort p r).line j = s.line j := rfl
@[simp] theorem port_putDest (s : State) (d : Dest) (r : DestRec) (j : Port) : (s.putDest d r).port j = s.port j := rfl
@[simp] theorem trim_putDest (s : State) (d : Dest) (r : DestRec) (j : Source) : (s.putDest d r).trim j = s.trim j := rfl
@[simp] theorem gate_putDest (s : State) (d : Dest) (r : DestRec) (j : Earpiece) : (s.putDest d r).gate j = s.gate j := rfl
@[simp] theorem fb_putDest (s : State) (d : Dest) (r : DestRec) (j : Earpiece) : (s.putDest d r).fb j = s.fb j := rfl
@[simp] theorem acc_putDest (s : State) (d : Dest) (r : DestRec) (j : Earpiece) : (s.putDest d r).acc j = s.acc j := rfl
@[simp] theorem line_putDest (s : State) (d : Dest) (r : DestRec) (j : Line) : (s.putDest d r).line j = s.line j := rfl
@[simp] theorem port_putTrim (s : State) (x : Source) (r : Ramp) (j : Port) : (s.putTrim x r).port j = s.port j := rfl
@[simp] theorem dest_putTrim (s : State) (x : Source) (r : Ramp) (j : Dest) : (s.putTrim x r).dest j = s.dest j := rfl
@[simp] theorem gate_putTrim (s : State) (x : Source) (r : Ramp) (j : Earpiece) : (s.putTrim x r).gate j = s.gate j := rfl
@[simp] theorem fb_putTrim (s : State) (x : Source) (r : Ramp) (j : Earpiece) : (s.putTrim x r).fb j = s.fb j := rfl
@[simp] theorem acc_putTrim (s : State) (x : Source) (r : Ramp) (j : Earpiece) : (s.putTrim x r).acc j = s.acc j := rfl
@[simp] theorem line_putTrim (s : State) (x : Source) (r : Ramp) (j : Line) : (s.putTrim x r).line j = s.line j := rfl
@[simp] theorem port_putGate (s : State) (e : Earpiece) (r : Ramp) (j : Port) : (s.putGate e r).port j = s.port j := rfl
@[simp] theorem dest_putGate (s : State) (e : Earpiece) (r : Ramp) (j : Dest) : (s.putGate e r).dest j = s.dest j := rfl
@[simp] theorem trim_putGate (s : State) (e : Earpiece) (r : Ramp) (j : Source) : (s.putGate e r).trim j = s.trim j := rfl
@[simp] theorem fb_putGate (s : State) (e : Earpiece) (r : Ramp) (j : Earpiece) : (s.putGate e r).fb j = s.fb j := rfl
@[simp] theorem acc_putGate (s : State) (e : Earpiece) (r : Ramp) (j : Earpiece) : (s.putGate e r).acc j = s.acc j := rfl
@[simp] theorem line_putGate (s : State) (e : Earpiece) (r : Ramp) (j : Line) : (s.putGate e r).line j = s.line j := rfl
@[simp] theorem port_putFb (s : State) (e : Earpiece) (f : Foldback) (j : Port) : (s.putFb e f).port j = s.port j := rfl
@[simp] theorem dest_putFb (s : State) (e : Earpiece) (f : Foldback) (j : Dest) : (s.putFb e f).dest j = s.dest j := rfl
@[simp] theorem trim_putFb (s : State) (e : Earpiece) (f : Foldback) (j : Source) : (s.putFb e f).trim j = s.trim j := rfl
@[simp] theorem gate_putFb (s : State) (e : Earpiece) (f : Foldback) (j : Earpiece) : (s.putFb e f).gate j = s.gate j := rfl
@[simp] theorem acc_putFb (s : State) (e : Earpiece) (f : Foldback) (j : Earpiece) : (s.putFb e f).acc j = s.acc j := rfl
@[simp] theorem line_putFb (s : State) (e : Earpiece) (f : Foldback) (j : Line) : (s.putFb e f).line j = s.line j := rfl
@[simp] theorem port_putAcc (s : State) (e : Earpiece) (a : Accessory) (j : Port) : (s.putAcc e a).port j = s.port j := rfl
@[simp] theorem dest_putAcc (s : State) (e : Earpiece) (a : Accessory) (j : Dest) : (s.putAcc e a).dest j = s.dest j := rfl
@[simp] theorem trim_putAcc (s : State) (e : Earpiece) (a : Accessory) (j : Source) : (s.putAcc e a).trim j = s.trim j := rfl
@[simp] theorem gate_putAcc (s : State) (e : Earpiece) (a : Accessory) (j : Earpiece) : (s.putAcc e a).gate j = s.gate j := rfl
@[simp] theorem fb_putAcc (s : State) (e : Earpiece) (a : Accessory) (j : Earpiece) : (s.putAcc e a).fb j = s.fb j := rfl
@[simp] theorem line_putAcc (s : State) (e : Earpiece) (a : Accessory) (j : Line) : (s.putAcc e a).line j = s.line j := rfl
@[simp] theorem port_putLine (s : State) (k : Line) (l : LineRec) (j : Port) : (s.putLine k l).port j = s.port j := rfl
@[simp] theorem dest_putLine (s : State) (k : Line) (l : LineRec) (j : Dest) : (s.putLine k l).dest j = s.dest j := rfl
@[simp] theorem trim_putLine (s : State) (k : Line) (l : LineRec) (j : Source) : (s.putLine k l).trim j = s.trim j := rfl
@[simp] theorem gate_putLine (s : State) (k : Line) (l : LineRec) (j : Earpiece) : (s.putLine k l).gate j = s.gate j := rfl
@[simp] theorem fb_putLine (s : State) (k : Line) (l : LineRec) (j : Earpiece) : (s.putLine k l).fb j = s.fb j := rfl
@[simp] theorem acc_putLine (s : State) (k : Line) (l : LineRec) (j : Earpiece) : (s.putLine k l).acc j = s.acc j := rfl
@[simp] theorem dest_endTransaction (s : State) (p : Port) (j : Dest) : (s.endTransaction p).dest j = s.dest j := rfl
@[simp] theorem trim_endTransaction (s : State) (p : Port) (j : Source) : (s.endTransaction p).trim j = s.trim j := rfl
@[simp] theorem gate_endTransaction (s : State) (p : Port) (j : Earpiece) : (s.endTransaction p).gate j = s.gate j := rfl
@[simp] theorem fb_endTransaction (s : State) (p : Port) (j : Earpiece) : (s.endTransaction p).fb j = s.fb j := rfl
@[simp] theorem acc_endTransaction (s : State) (p : Port) (j : Earpiece) : (s.endTransaction p).acc j = s.acc j := rfl
@[simp] theorem line_endTransaction (s : State) (p : Port) (j : Line) : (s.endTransaction p).line j = s.line j := rfl
@[simp] theorem dest_reply (s : State) (p : Port) (tag : Byte) (a : Answer) (j : Dest) : (s.reply p tag a).dest j = s.dest j := rfl
@[simp] theorem trim_reply (s : State) (p : Port) (tag : Byte) (a : Answer) (j : Source) : (s.reply p tag a).trim j = s.trim j := rfl
@[simp] theorem gate_reply (s : State) (p : Port) (tag : Byte) (a : Answer) (j : Earpiece) : (s.reply p tag a).gate j = s.gate j := rfl
@[simp] theorem fb_reply (s : State) (p : Port) (tag : Byte) (a : Answer) (j : Earpiece) : (s.reply p tag a).fb j = s.fb j := rfl
@[simp] theorem acc_reply (s : State) (p : Port) (tag : Byte) (a : Answer) (j : Earpiece) : (s.reply p tag a).acc j = s.acc j := rfl
@[simp] theorem line_reply (s : State) (p : Port) (tag : Byte) (a : Answer) (j : Line) : (s.reply p tag a).line j = s.line j := rfl
@[simp] theorem port_setHolder (s : State) (h : Option Port) (j : Port) : (s.setHolder h).port j = s.port j := rfl
@[simp] theorem dest_setHolder (s : State) (h : Option Port) (j : Dest) : (s.setHolder h).dest j = s.dest j := rfl
@[simp] theorem trim_setHolder (s : State) (h : Option Port) (j : Source) : (s.setHolder h).trim j = s.trim j := rfl
@[simp] theorem gate_setHolder (s : State) (h : Option Port) (j : Earpiece) : (s.setHolder h).gate j = s.gate j := rfl
@[simp] theorem fb_setHolder (s : State) (h : Option Port) (j : Earpiece) : (s.setHolder h).fb j = s.fb j := rfl
@[simp] theorem acc_setHolder (s : State) (h : Option Port) (j : Earpiece) : (s.setHolder h).acc j = s.acc j := rfl
@[simp] theorem line_setHolder (s : State) (h : Option Port) (j : Line) : (s.setHolder h).line j = s.line j := rfl

/-! ### Parts of the route store and of the mix engine -/

@[simp] theorem putDest_free (s : State) (d : Dest) (r : DestRec) : (s.putDest d r).route.free = s.route.free := rfl
@[simp] theorem putDest_trims (s : State) (d : Dest) (r : DestRec) : (s.putDest d r).route.trims = s.route.trims := rfl
@[simp] theorem putTrim_free (s : State) (x : Source) (r : Ramp) : (s.putTrim x r).route.free = s.route.free := rfl
@[simp] theorem putTrim_dests (s : State) (x : Source) (r : Ramp) : (s.putTrim x r).route.dests = s.route.dests := rfl
@[simp] theorem putGate_meters (s : State) (e : Earpiece) (r : Ramp) : (s.putGate e r).mix.meters = s.mix.meters := rfl
@[simp] theorem putFb_groups (s : State) (e : Earpiece) (f : Foldback) : (s.putFb e f).foldback.groups = s.foldback.groups := rfl
@[simp] theorem putFb_arrivals (s : State) (e : Earpiece) (f : Foldback) : (s.putFb e f).foldback.arrivals = s.foldback.arrivals := rfl
@[simp] theorem putAcc_profiles (s : State) (e : Earpiece) (a : Accessory) : (s.putAcc e a).ident.profiles = s.ident.profiles := rfl

/-! ### A port's record as its transaction ends and as it is answered -/

@[simp] theorem port_endTransaction_same (s : State) (p : Port) :
    (s.endTransaction p).port p = { s.port p with txn := none, sdo := none, slot := none } := by
  simp [State.endTransaction]

theorem port_endTransaction_ne (s : State) {p q : Port} (h : q ≠ p) : (s.endTransaction p).port q = s.port q := by
  simp [State.endTransaction, port_putPort, h]

@[simp] theorem port_reply_same (s : State) (p : Port) (tag : Byte) (a : Answer) :
    (s.reply p tag a).port p =
      { s.port p with slot := some { tag := tag, outcome := a.outcome, results := a.results } } := by
  simp [State.reply]

theorem port_reply_ne (s : State) {p q : Port} (tag : Byte) (a : Answer) (h : q ≠ p) :
    (s.reply p tag a).port q = s.port q := by
  simp [State.reply, port_putPort, h]

end Sys2Proof.Machine
end

