-- ==== Sys2Proof/Laws/Ops.lean ====
section
/-! SUPPORT. For each shared operation, what it can do, said once: deposits, the taking of a request, the authority check, lists
settled, probes started, reference and line changes, ramps. -/

namespace Sys2Proof.Machine

/-! ### Deposits change the ports alone -/

@[simp] theorem post_nresetLow (s : State) (x : Post) : (s.post x).nresetLow = s.nresetLow := by
  unfold State.post; split <;> rfl

theorem post_eq (s : State) (x : Post) : s.post x = { s with ports := (s.post x).ports } := by
  unfold State.post
  split <;> rfl

theorem postAll_eq (s : State) (xs : List Post) : s.postAll xs = { s with ports := (s.postAll xs).ports } := by
  induction xs generalizing s with
  | nil => rfl
  | cons x xs ih =>
    change (s.post x).postAll xs = { s with ports := ((s.post x).postAll xs).ports }
    rw [ih]
    generalize ((s.post x).postAll xs).ports = v
    rw [post_eq]

@[simp] theorem postAll_nil (s : State) : s.postAll [] = s := rfl
@[simp] theorem postAll_cons (s : State) (x : Post) (xs : List Post) : s.postAll (x :: xs) = (s.post x).postAll xs := rfl
theorem postAll_append (s : State) (xs ys : List Post) : s.postAll (xs ++ ys) = (s.postAll xs).postAll ys := by
  simp [State.postAll]

@[simp] theorem postAll_nresetLow (s : State) (xs : List Post) : (s.postAll xs).nresetLow = s.nresetLow := by rw [postAll_eq]
@[simp] theorem postAll_access (s : State) (xs : List Post) : (s.postAll xs).access = s.access := by rw [postAll_eq]
@[simp] theorem postAll_route (s : State) (xs : List Post) : (s.postAll xs).route = s.route := by rw [postAll_eq]
@[simp] theorem postAll_mix (s : State) (xs : List Post) : (s.postAll xs).mix = s.mix := by rw [postAll_eq]
@[simp] theorem postAll_foldback (s : State) (xs : List Post) : (s.postAll xs).foldback = s.foldback := by rw [postAll_eq]
@[simp] theorem postAll_ident (s : State) (xs : List Post) : (s.postAll xs).ident = s.ident := by rw [postAll_eq]
@[simp] theorem postAll_field (s : State) (xs : List Post) : (s.postAll xs).field = s.field := by rw [postAll_eq]
@[simp] theorem postAll_reference (s : State) (xs : List Post) : (s.postAll xs).reference = s.reference := by rw [postAll_eq]
@[simp] theorem postAll_pending (s : State) (xs : List Post) : (s.postAll xs).pending = s.pending := by rw [postAll_eq]

@[simp] theorem postAll_dest (s : State) (xs : List Post) (d : Dest) : (s.postAll xs).dest d = s.dest d := by
  simp [State.dest]
@[simp] theorem postAll_trim (s : State) (xs : List Post) (x : Source) : (s.postAll xs).trim x = s.trim x := by
  simp [State.trim]
@[simp] theorem postAll_gate (s : State) (xs : List Post) (e : Earpiece) : (s.postAll xs).gate e = s.gate e := by
  simp [State.gate]
@[simp] theorem postAll_fb (s : State) (xs : List Post) (e : Earpiece) : (s.postAll xs).fb e = s.fb e := by
  simp [State.fb]
@[simp] theorem postAll_acc (s : State) (xs : List Post) (e : Earpiece) : (s.postAll xs).acc e = s.acc e := by
  simp [State.acc]
@[simp] theorem postAll_line (s : State) (xs : List Post) (k : Line) : (s.postAll xs).line k = s.line k := by
  simp [State.line]

/-- A deposit leaves a port's transaction, data output, slot and hold, and lengthens its queue by at most the one record. -/
theorem deposit_cases (r : PortRec) (n : Notice) :
    r.deposit n = r ∨ (r.held = false ∧ r.queue.length < Config.queueCapacity ∧ r.deposit n = { r with queue := r.queue ++ [n] })
      ∨ (r.held = false ∧ Config.queueCapacity ≤ r.queue.length ∧ r.deposit n = { r with overrun := true }) := by
  unfold PortRec.deposit
  cases h : r.held
  · by_cases hq : r.queue.length < Config.queueCapacity
    · simp [hq]
    · right; right; simp [hq]; omega
  · simp

theorem deposit_txn (r : PortRec) (n : Notice) : (r.deposit n).txn = r.txn := by
  unfold PortRec.deposit; split <;> [rfl; (split <;> rfl)]
theorem deposit_sdo (r : PortRec) (n : Notice) : (r.deposit n).sdo = r.sdo := by
  unfold PortRec.deposit; split <;> [rfl; (split <;> rfl)]
theorem deposit_slot (r : PortRec) (n : Notice) : (r.deposit n).slot = r.slot := by
  unfold PortRec.deposit; split <;> [rfl; (split <;> rfl)]
theorem deposit_held (r : PortRec) (n : Notice) : (r.deposit n).held = r.held := by
  unfold PortRec.deposit; split <;> [rfl; (split <;> rfl)]

/-- One deposit reaches its port alone, and none is made while NRESET is asserted (R21). -/
theorem post_port (s : State) (x : Post) (q : Port) :
    (s.post x).port q = if s.nresetLow = false ∧ q = x.1 then (s.port q).deposit x.2 else s.port q := by
  unfold State.post
  cases s.nresetLow
  · by_cases h : q = x.1 <;> simp [port_putPort, h]
  · simp

/-- What the deposits of one event make of a port: its own notices, in their order. -/
theorem postAll_port (s : State) (xs : List Post) (q : Port) (h : s.nresetLow = false) :
    (s.postAll xs).port q = ((xs.filter fun x => decide (x.1 = q)).map (·.2)).foldl PortRec.deposit (s.port q) := by
  induction xs generalizing s with
  | nil => rfl
  | cons x xs ih =>
    rw [postAll_cons, ih _ (by simp [h]), post_port]
    by_cases hx : x.1 = q
    · simp [h, hx]
    · have hx' : ¬ q = x.1 := fun e => hx e.symm
      simp [hx, hx']

theorem postAll_port_txn (s : State) (xs : List Post) (q : Port) : ((s.postAll xs).port q).txn = (s.port q).txn := by
  induction xs generalizing s with
  | nil => rfl
  | cons x xs ih => rw [postAll_cons, ih, post_port]; split <;> [exact deposit_txn _ _; rfl]

theorem postAll_port_held (s : State) (xs : List Post) (q : Port) : ((s.postAll xs).port q).held = (s.port q).held := by
  induction xs generalizing s with
  | nil => rfl
  | cons x xs ih => rw [postAll_cons, ih, post_port]; split <;> [exact deposit_held _ _; rfl]

theorem postAll_port_slot (s : State) (xs : List Post) (q : Port) : ((s.postAll xs).port q).slot = (s.port q).slot := by
  induction xs generalizing s with
  | nil => rfl
  | cons x xs ih => rw [postAll_cons, ih, post_port]; split <;> [exact deposit_slot _ _; rfl]

theorem postAll_port_sdo (s : State) (xs : List Post) (q : Port) : ((s.postAll xs).port q).sdo = (s.port q).sdo := by
  induction xs generalizing s with
  | nil => rfl
  | cons x xs ih => rw [postAll_cons, ih, post_port]; split <;> [exact deposit_sdo _ _; rfl]

theorem deposit_queue_le (r : PortRec) (n : Notice) (h : r.queue.length ≤ Config.queueCapacity) :
    (r.deposit n).queue.length ≤ Config.queueCapacity := by
  rcases deposit_cases r n with h' | ⟨-, h', e⟩ | ⟨-, -, e⟩
  · rwa [h']
  · rw [e]; simp; omega
  · rwa [e]

/-! ### The taking of a request -/

theorem takeRequest_spelled {s : State} {p : Port} {i : Instr} {tag : Byte} (act : State → State × Answer)
    (h : s.spelled p i = some tag) :
    takeRequest s p i act =
      .next ((act (s.endTransaction p)).1.reply p tag (act (s.endTransaction p)).2) := by
  simp [takeRequest, h]

theorem takeRequest_other {s : State} {p : Port} {i : Instr} (act : State → State × Answer)
    (h : s.spelled p i = none) : takeRequest s p i act = .next s := by
  simp [takeRequest, h]

/-- Everything a request command can do: nothing, where the port's inbound bytes do not spell it, or its act on the state whose
transaction has ended, and its answer in the slot. -/
theorem takeRequest_cases {s t : State} {p : Port} {i : Instr} {act : State → State × Answer}
    (h : takeRequest s p i act = .next t) :
    (s.spelled p i = none ∧ t = s) ∨
      ∃ tag, s.spelled p i = some tag ∧
        t = (act (s.endTransaction p)).1.reply p tag (act (s.endTransaction p)).2 := by
  cases hs : s.spelled p i with
  | none =>
    rw [takeRequest_other act hs] at h
    injection h with h
    exact .inl ⟨rfl, h.symm⟩
  | some tag =>
    rw [takeRequest_spelled act hs] at h
    injection h with h
    exact .inr ⟨tag, rfl, h.symm⟩

/-- A request is taken only from a port that is IN_TRANSACTION (R1). -/
theorem spelled_txn {s : State} {p : Port} {i : Instr} {tag : Byte} (h : s.spelled p i = some tag) :
    (s.port p).txn ≠ none := by
  intro e
  simp [State.spelled, e] at h

theorem withAuthority_holder {s : State} {p : Port} (act : State → State × Answer) (h : s.access.holder = some p) :
    withAuthority p act s = act s := by
  simp [withAuthority, h]

theorem withAuthority_other {s : State} {p : Port} (act : State → State × Answer) (h : s.access.holder ≠ some p) :
    withAuthority p act s = (s, noAuthorityAnswer) := by
  simp [withAuthority, h]

/-! ### Window checks -/

theorem checkWrite_ok {a : AccessUnit} {p : Port} {d : Dest} {w : Window} :
    a.checkWrite p d = .ok w ↔ a.governing p d = some w ∧ w.listenOnly = false := by
  unfold AccessUnit.checkWrite
  cases a.governing p d with
  | none => simp
  | some v =>
    cases h : v.listenOnly <;> simp [h]
    · rintro rfl; exact h
    · rintro rfl; simp [h]

theorem checkRead_ok {a : AccessUnit} {p : Port} {d : Dest} {w : Window} :
    a.checkRead p d = .ok w ↔ a.governing p d = some w := by
  unfold AccessUnit.checkRead
  cases a.governing p d <;> simp

theorem covers_iff_governing (a : AccessUnit) (p : Port) (d : Dest) :
    a.covers p d = (a.governing p d).isSome := by
  unfold AccessUnit.covers AccessUnit.governing
  cases (a.window p 0).matchesDest d <;> cases (a.window p 1).matchesDest d <;> rfl

/-! ### The route store -/

@[simp] theorem settleList_access (s : State) (d : Dest) (l : List Entry) : (s.settleList d l).access = s.access := rfl
@[simp] theorem settleList_ports (s : State) (d : Dest) (l : List Entry) : (s.settleList d l).ports = s.ports := rfl
@[simp] theorem settleList_mix (s : State) (d : Dest) (l : List Entry) : (s.settleList d l).mix = s.mix := rfl
@[simp] theorem settleList_foldback (s : State) (d : Dest) (l : List Entry) : (s.settleList d l).foldback = s.foldback := rfl
@[simp] theorem settleList_ident (s : State) (d : Dest) (l : List Entry) : (s.settleList d l).ident = s.ident := rfl
@[simp] theorem settleList_field (s : State) (d : Dest) (l : List Entry) : (s.settleList d l).field = s.field := rfl
@[simp] theorem settleList_reference (s : State) (d : Dest) (l : List Entry) : (s.settleList d l).reference = s.reference := rfl
@[simp] theorem settleList_pending (s : State) (d : Dest) (l : List Entry) : (s.settleList d l).pending = s.pending := rfl
@[simp] theorem settleList_nresetLow (s : State) (d : Dest) (l : List Entry) :
    (s.settleList d l).nresetLow = s.nresetLow := rfl
@[simp] theorem settleList_trims (s : State) (d : Dest) (l : List Entry) :
    (s.settleList d l).route.trims = s.route.trims := rfl

theorem settleList_free (s : State) (d : Dest) (l : List Entry) :
    (s.settleList d l).route.free = s.route.free + (l.length - (unfinished l).length) := rfl

theorem settleList_dest (s : State) (d j : Dest) (l : List Entry) :
    (s.settleList d l).dest j = if j = d then { s.dest d with list := unfinished l } else s.dest j := by
  change (s.putDest d _).dest j = _
  exact dest_putDest s d j _

theorem unfinished_length_le (l : List Entry) : (unfinished l).length ≤ l.length := List.length_filter_le _ _

theorem finished_of_mem_unfinished {l : List Entry} {y : Entry} (h : y ∈ unfinished l) : y.finished = false := by
  simpa [unfinished] using (List.mem_filter.mp h).2

@[simp] theorem mapEntry_length (l : List Entry) (x : Source) (f : Entry → Entry) : (mapEntry l x f).length = l.length := by
  simp [mapEntry]

theorem settleAll_dest (r : RouteStore) (f : DestRec → List Entry) (d : Dest) :
    (r.settleAll f).dests.get d = { r.dests.get d with list := unfinished (f (r.dests.get d)) } := by
  unfold RouteStore.settleAll remap
  simp

@[simp] theorem settleAll_trims (r : RouteStore) (f : DestRec → List Entry) : (r.settleAll f).trims = r.trims := by
  unfold RouteStore.settleAll
  rfl

/-- Lists settled give their entries back to the pool: the free count and the entries in all lists keep their sum (R44). -/
theorem settleAll_pool (r : RouteStore) (f : DestRec → List Entry)
    (h : ∀ d, (f (r.dests.get d)).length ≤ (r.dests.get d).list.length) :
    (r.settleAll f).free + (r.settleAll f).used = r.free + r.used := by
  have used_le : (r.settleAll f).used ≤ r.used := by
    unfold RouteStore.used
    apply List.sum_le_sum
    intro d _
    rw [settleAll_dest]
    exact (unfinished_length_le _).trans (h d)
  have free_eq : (r.settleAll f).free = r.free + (r.used - (r.settleAll f).used) := by
    simp only [RouteStore.settleAll, RouteStore.used]
  rw [free_eq, Nat.add_assoc, Nat.sub_add_cancel used_le]

theorem portReset_pool (r : RouteStore) (p : Port) : (r.portReset p).free + (r.portReset p).used = r.free + r.used := by
  unfold RouteStore.portReset
  apply settleAll_pool
  intro d
  simp [fadeMomentary]

/-! ### The identification unit -/

theorem startProbe_eq (s : State) (e : Earpiece) :
    s.startProbe e = { s with mix := (s.startProbe e).mix, ident := (s.startProbe e).ident } := by
  unfold State.startProbe
  dsimp only
  split <;> rfl

theorem startProbe_acc (s : State) (e j : Earpiece) :
    (s.startProbe e).acc j = if j = e then (s.acc e).startProbe else s.acc j := by
  unfold State.startProbe
  dsimp only
  split <;> simp [acc_putAcc]

/-! ### The reference unit and the lines -/

/-- The reference unit's step changes the reference record and the ports alone. -/
theorem setReference_eq (s : State) (x : RefStep) :
    s.setReference x = { s with reference := x.1, ports := (s.setReference x).ports } := by
  unfold State.setReference
  rw [postAll_eq]

/-- The report of a tracked line changes the reference record and the ports alone. -/
theorem reportTracked_eq (s : State) (k : Line) (a b : LineState) :
    s.reportTracked k a b =
      { s with reference := (s.reportTracked k a b).reference, ports := (s.reportTracked k a b).ports } := by
  unfold State.reportTracked
  split
  · split
    · rfl
    · split
      · rw [setReference_eq]
      · rfl
  · rfl

/-- A change of a line's state changes that line, the reference record and the ports alone. -/
theorem changeLine_eq (s : State) (k : Line) (l : LineRec) (c : LineCause) :
    s.changeLine k l c =
      { s with field := (s.putLine k { l with lastCause := c }).field, reference := (s.changeLine k l c).reference,
               ports := (s.changeLine k l c).ports } := by
  unfold State.changeLine
  dsimp only
  rw [reportTracked_eq, postAll_eq]
  rfl

theorem changeLine_line (s : State) (k j : Line) (l : LineRec) (c : LineCause) :
    (s.changeLine k l c).line j = if j = k then { l with lastCause := c } else s.line j := by
  rw [changeLine_eq]
  exact line_putLine s k j _

/-! ### Ramps -/

@[simp] theorem aim_target (r : Ramp) (t f : Nat) (z : Bool) : (r.aim t f z).target = t := by
  unfold Ramp.aim; dsimp only; split <;> rfl

@[simp] theorem advance_target (r : Ramp) : r.advance.target = r.target := by
  unfold Ramp.advance; split <;> rfl

@[simp] theorem advance_step (r : Ramp) : r.advance.step = r.step := by
  unfold Ramp.advance; split <;> rfl

/-- A current gain word stays between where it stood and its target (R70). -/
theorem advance_between (r : Ramp) :
    min r.cur r.target ≤ r.advance.cur ∧ r.advance.cur ≤ max r.cur r.target := by
  unfold Ramp.advance
  split
  · simp only; omega
  · simp only; omega

/-- After a target is set the gain word lies between where it started, or 0, and the target (R69). -/
theorem aim_cur_le (r : Ramp) (t f : Nat) (z : Bool) : (r.aim t f z).cur ≤ max r.cur t := by
  unfold Ramp.aim
  cases z <;> (dsimp only; split <;> simp)

/-! ### The foldback controller -/

/-- The foldback controller's step changes one record and the ports alone. -/
theorem setTalk_eq (s : State) (e : Earpiece) (x : TalkStep) :
    s.setTalk e x = { s with foldback := (s.putFb e x.1).foldback, ports := (s.setTalk e x).ports } := by
  unfold State.setTalk
  rw [postAll_eq]
  rfl

@[simp] theorem putFb_putFb (s : State) (e : Earpiece) (f g : Foldback) : (s.putFb e f).putFb e g = s.putFb e g := by
  simp [State.putFb, put]

/-- A deposit and a foldback record stored touch different records. -/
theorem putFb_post (s : State) (e : Earpiece) (f : Foldback) (x : Post) : (s.post x).putFb e f = (s.putFb e f).post x := by
  unfold State.post
  by_cases h : s.nresetLow = true <;> simp [h, State.putFb, State.putPort, State.port]

theorem putFb_postAll (s : State) (e : Earpiece) (f : Foldback) (xs : List Post) :
    (s.postAll xs).putFb e f = (s.putFb e f).postAll xs := by
  induction xs generalizing s with
  | nil => rfl
  | cons x xs ih => rw [postAll_cons, postAll_cons, ih, putFb_post]

/-- The foldback controller's part of a port reset changes its records and the ports alone. -/
theorem withdrawPort_eq (s : State) (p : Port) :
    s.withdrawPort p =
      { s with foldback := { s.foldback with recs := (s.withdrawPort p).foldback.recs }, ports := (s.withdrawPort p).ports } := by
  unfold State.withdrawPort
  generalize List.finRange 16 = l
  induction l generalizing s with
  | nil => rfl
  | cons e l ih =>
    rw [List.foldl_cons]
    split
    · exact ih s
    · rw [ih, setTalk_eq]
      rfl

/-- A record placed in the waiting queue joins the records already there. -/
theorem enqueue_perm (t : TalkRec) (q : List TalkRec) : (enqueue t q).Perm (t :: q) := by
  induction q with
  | nil => exact List.Perm.refl _
  | cons u rest ih =>
    unfold enqueue
    split
    · exact List.Perm.refl _
    · exact (List.Perm.cons u ih).trans (List.Perm.swap t u rest)

@[simp] theorem enqueue_length (t : TalkRec) (q : List TalkRec) : (enqueue t q).length = q.length + 1 := by
  simpa using (enqueue_perm t q).length_eq

end Sys2Proof.Machine
end

