-- ==== Sys2Proof/Laws/PerInstr.lean ====
section
/-! SUPPORT. A statement made of every command: its request code is a known one and its parameters are as many as the code
uses (09, section 9.3). -/

namespace Sys2Proof.Laws

/-- The request frame of a command carries exactly the number of parameters that its request code uses (R4; 09, section 9.3); a
command that is no request has none. -/
def RequestFrame.Statement (i : Instr) : Prop :=
  ∀ c ps, requestOf i = some (c, ps) → paramCount c = some ps.length

/-- A request command whose code uses as many parameters as it has. -/
theorem requestFrame_of_some {i : Instr} {c : Byte} {ps : List Byte} (h : requestOf i = some (c, ps))
    (hc : paramCount c = some ps.length) : RequestFrame.Statement i := by
  intro c' ps' h'
  rw [h] at h'
  cases h'
  exact hc

/-- A command that is no request. -/
theorem requestFrame_of_none {i : Instr} (h : requestOf i = none) : RequestFrame.Statement i := by
  intro c ps h'
  rw [h] at h'
  cases h'

theorem RequestFrame.transactionBegin (p : Port) : RequestFrame.Statement (.transactionBegin p) :=
  requestFrame_of_none rfl
theorem RequestFrame.framing (p : Port) : RequestFrame.Statement (.framing p) :=
  requestFrame_of_none rfl
theorem RequestFrame.unknown (p : Port) : RequestFrame.Statement (.unknown p) :=
  requestFrame_of_none rfl
theorem RequestFrame.nop (p : Port) : RequestFrame.Statement (.nop p) :=
  requestFrame_of_some rfl rfl
theorem RequestFrame.queryPart (p : Port) : RequestFrame.Statement (.queryPart p) :=
  requestFrame_of_some rfl rfl
theorem RequestFrame.fetchNotices (p : Port) (max : Byte) : RequestFrame.Statement (.fetchNotices p max) :=
  requestFrame_of_some rfl rfl
theorem RequestFrame.claimAuthority (p : Port) : RequestFrame.Statement (.claimAuthority p) :=
  requestFrame_of_some rfl rfl
theorem RequestFrame.releaseAuthority (p : Port) : RequestFrame.Statement (.releaseAuthority p) :=
  requestFrame_of_some rfl rfl
theorem RequestFrame.seizeAuthority (p : Port) : RequestFrame.Statement (.seizeAuthority p) :=
  requestFrame_of_some rfl rfl
theorem RequestFrame.setSeizeRight (p : Port) (port switch : Byte) : RequestFrame.Statement (.setSeizeRight p port switch) :=
  requestFrame_of_some rfl rfl
theorem RequestFrame.setWindow (p : Port) (port window enabled base mask priority listenOnly tag : Byte) : RequestFrame.Statement (.setWindow p port window enabled base mask priority listenOnly tag) :=
  requestFrame_of_some rfl rfl
theorem RequestFrame.readWindow (p : Port) (port window : Byte) : RequestFrame.Statement (.readWindow p port window) :=
  requestFrame_of_some rfl rfl
theorem RequestFrame.routeAdd (p : Port) (dest source level mode : Byte) : RequestFrame.Statement (.routeAdd p dest source level mode) :=
  requestFrame_of_some rfl rfl
theorem RequestFrame.routeLevel (p : Port) (dest source level : Byte) : RequestFrame.Statement (.routeLevel p dest source level) :=
  requestFrame_of_some rfl rfl
theorem RequestFrame.routeRemove (p : Port) (dest source : Byte) : RequestFrame.Statement (.routeRemove p dest source) :=
  requestFrame_of_some rfl rfl
theorem RequestFrame.routeClear (p : Port) (dest filter : Byte) : RequestFrame.Statement (.routeClear p dest filter) :=
  requestFrame_of_some rfl rfl
theorem RequestFrame.readRoutes (p : Port) (dest : Byte) : RequestFrame.Statement (.readRoutes p dest) :=
  requestFrame_of_some rfl rfl
theorem RequestFrame.setDest (p : Port) (dest master fade : Byte) : RequestFrame.Statement (.setDest p dest master fade) :=
  requestFrame_of_some rfl rfl
theorem RequestFrame.setTrim (p : Port) (source trim : Byte) : RequestFrame.Statement (.setTrim p source trim) :=
  requestFrame_of_some rfl rfl
theorem RequestFrame.readLevels (p : Port) (first count : Byte) : RequestFrame.Statement (.readLevels p first count) :=
  requestFrame_of_some rfl rfl
theorem RequestFrame.talkRequest (p : Port) (earpiece talker : Byte) : RequestFrame.Statement (.talkRequest p earpiece talker) :=
  requestFrame_of_some rfl rfl
theorem RequestFrame.talkRelease (p : Port) (earpiece : Byte) : RequestFrame.Statement (.talkRelease p earpiece) :=
  requestFrame_of_some rfl rfl
theorem RequestFrame.setFoldback (p : Port) (earpiece bed nominal duck interrupt lead hold limit : Byte) : RequestFrame.Statement (.setFoldback p earpiece bed nominal duck interrupt lead hold limit) :=
  requestFrame_of_some rfl rfl
theorem RequestFrame.readFoldback (p : Port) (earpiece : Byte) : RequestFrame.Statement (.readFoldback p earpiece) :=
  requestFrame_of_some rfl rfl
theorem RequestFrame.talkGroup (p : Port) (group talker : Byte) : RequestFrame.Statement (.talkGroup p group talker) :=
  requestFrame_of_some rfl rfl
theorem RequestFrame.releaseGroup (p : Port) (group : Byte) : RequestFrame.Statement (.releaseGroup p group) :=
  requestFrame_of_some rfl rfl
theorem RequestFrame.setGroup (p : Port) (group : Byte) (members : BitVec 16) : RequestFrame.Statement (.setGroup p group members) :=
  requestFrame_of_some rfl rfl
theorem RequestFrame.identify (p : Port) (earpiece : Byte) : RequestFrame.Statement (.identify p earpiece) :=
  requestFrame_of_some rfl rfl
theorem RequestFrame.readAccessory (p : Port) (earpiece : Byte) : RequestFrame.Statement (.readAccessory p earpiece) :=
  requestFrame_of_some rfl rfl
theorem RequestFrame.setProfile (p : Port) (index valid : Byte) (matchId : BitVec 16) (ceiling ear : Byte) : RequestFrame.Statement (.setProfile p index valid matchId ceiling ear) :=
  requestFrame_of_some rfl rfl
theorem RequestFrame.fieldStart (p : Port) (line : Byte) : RequestFrame.Statement (.fieldStart p line) :=
  requestFrame_of_some rfl rfl
theorem RequestFrame.fieldStop (p : Port) (line : Byte) : RequestFrame.Statement (.fieldStop p line) :=
  requestFrame_of_some rfl rfl
theorem RequestFrame.fieldPark (p : Port) (line : Byte) : RequestFrame.Statement (.fieldPark p line) :=
  requestFrame_of_some rfl rfl
theorem RequestFrame.readField (p : Port) (line : Byte) : RequestFrame.Statement (.readField p line) :=
  requestFrame_of_some rfl rfl
theorem RequestFrame.setFieldPlan (p : Port) (line depth quiet autoWake acquire : Byte) : RequestFrame.Statement (.setFieldPlan p line depth quiet autoWake acquire) :=
  requestFrame_of_some rfl rfl
theorem RequestFrame.selectReference (p : Port) (choice : Byte) : RequestFrame.Statement (.selectReference p choice) :=
  requestFrame_of_some rfl rfl
theorem RequestFrame.readReference (p : Port) : RequestFrame.Statement (.readReference p) :=
  requestFrame_of_some rfl rfl
theorem RequestFrame.prstAssert (p : Port) : RequestFrame.Statement (.prstAssert p) :=
  requestFrame_of_none rfl
theorem RequestFrame.prstRelease (p : Port) : RequestFrame.Statement (.prstRelease p) :=
  requestFrame_of_none rfl
theorem RequestFrame.chipReset : RequestFrame.Statement .chipReset :=
  requestFrame_of_none rfl
theorem RequestFrame.nresetRelease : RequestFrame.Statement .nresetRelease :=
  requestFrame_of_none rfl
theorem RequestFrame.mixFrameEvent (mics programmes : List Sample) : RequestFrame.Statement (.mixFrameEvent mics programmes) :=
  requestFrame_of_none rfl
theorem RequestFrame.leadExpiry (e : Earpiece) : RequestFrame.Statement (.leadExpiry e) :=
  requestFrame_of_none rfl
theorem RequestFrame.limitExpiry (e : Earpiece) : RequestFrame.Statement (.limitExpiry e) :=
  requestFrame_of_none rfl
theorem RequestFrame.holdExpiry (e : Earpiece) : RequestFrame.Statement (.holdExpiry e) :=
  requestFrame_of_none rfl
theorem RequestFrame.settleTimerExpiry (e : Earpiece) : RequestFrame.Statement (.settleTimerExpiry e) :=
  requestFrame_of_none rfl
theorem RequestFrame.contactReadingChange (e : Earpiece) (b0 b1 b2 b3 : Contacts) : RequestFrame.Statement (.contactReadingChange e b0 b1 b2 b3) :=
  requestFrame_of_none rfl
theorem RequestFrame.debounceExpiry (e : Earpiece) : RequestFrame.Statement (.debounceExpiry e) :=
  requestFrame_of_none rfl
theorem RequestFrame.receiverLock (k : Line) : RequestFrame.Statement (.receiverLock k) :=
  requestFrame_of_none rfl
theorem RequestFrame.receiverLockLoss (k : Line) : RequestFrame.Statement (.receiverLockLoss k) :=
  requestFrame_of_none rfl
theorem RequestFrame.stallExpiry (k : Line) : RequestFrame.Statement (.stallExpiry k) :=
  requestFrame_of_none rfl
theorem RequestFrame.acquireExpiry (k : Line) : RequestFrame.Statement (.acquireExpiry k) :=
  requestFrame_of_none rfl
theorem RequestFrame.retryExpiry (k : Line) : RequestFrame.Statement (.retryExpiry k) :=
  requestFrame_of_none rfl
theorem RequestFrame.fieldCall (k : Line) : RequestFrame.Statement (.fieldCall k) :=
  requestFrame_of_none rfl
theorem RequestFrame.fieldWrite (k : Line) (x : Sample) : RequestFrame.Statement (.fieldWrite k x) :=
  requestFrame_of_none rfl
theorem RequestFrame.fieldRead (k : Line) : RequestFrame.Statement (.fieldRead k) :=
  requestFrame_of_none rfl
theorem RequestFrame.activeReferenceSample (k : Line) (x : Sample) : RequestFrame.Statement (.activeReferenceSample k x) :=
  requestFrame_of_none rfl
theorem RequestFrame.housePresence : RequestFrame.Statement .housePresence :=
  requestFrame_of_none rfl
theorem RequestFrame.houseAbsence : RequestFrame.Statement .houseAbsence :=
  requestFrame_of_none rfl
theorem RequestFrame.houseSettleExpiry : RequestFrame.Statement .houseSettleExpiry :=
  requestFrame_of_none rfl
theorem RequestFrame.fieldSettleExpiry : RequestFrame.Statement .fieldSettleExpiry :=
  requestFrame_of_none rfl
theorem RequestFrame.switchDeadlineExpiry : RequestFrame.Statement .switchDeadlineExpiry :=
  requestFrame_of_none rfl
theorem RequestFrame.clockPeriod (p : Port) (sdi : Bool) : RequestFrame.Statement (.clockPeriod p sdi) :=
  requestFrame_of_none rfl

end Sys2Proof.Laws
end

