-- ==== Sys2Proof/Tests/Slice0.lean ====
section
/-! SUPPORT. Own tests: which commands are well formed, worked cases printed in the manual, and for the statements with
hypotheses a concrete state and operands that meet them (`witness_<statement>`). -/

namespace Sys2Proof.Tests
open Sys2Proof Sys2Proof.Machine

-- One theorem at a time: each evaluation in the kernel would otherwise hold a thread of its own.
set_option Elab.async false

/-! ### States to test on -/

/-- `s` with a transaction of port `p` in which the bytes have been clocked in. -/
def asked (s : State) (p : Port) (bytes : List Byte) : State :=
  s.putPort p { s.port p with txn := some { bytes := bytes, bits := [], frame := [] } }

/-- A window over every destination. -/
def wide (priority : BitVec 2) (listenOnly : Bool := false) : Window :=
  { enabled := true, base := 0, mask := 63, priority := priority, listenOnly := listenOnly, tag := 1 }

/-- `s` with window 0 of port `p` set. -/
def under (s : State) (p : Port) (w : Window) : State :=
  { s with access := { s.access with windows := put s.access.windows p #v[w, Window.reset] } }

/-- `s` with configuration authority at port `p`. -/
def ruled (s : State) (p : Port) : State := { s with access := { s.access with holder := some p } }

/-- After reset, port 1 with a window of priority 2 over everything. -/
def base : State := under State.reset 1 (wide 2)

/-- A live entry of source `x`. -/
def entry (x : Source) (priority : BitVec 2) (st : EntryState) (cur : Nat) : Entry :=
  { source := x, level := 0, ramp := { cur := cur, target := if st = .active then 65536 else 0, step := 137 },
    mode := .latched, creator := 0, priority := priority, tag := 1, state := st }

/-- `base` with a list on destination `d`. -/
def listed (d : Dest) (fade : BitVec 2) (l : List Entry) : State :=
  base.putDest d { master := 0, fade := fade, list := l }

/-- Whether the outcome is a next state whose reply slot on `p` holds this outcome and these results. -/
def replies (o : Host.Outcome State Fault Refusal) (p : Port) (c : ReplyCode) (r : List Byte) : Bool :=
  match o with
  | .next t => decide ((t.port p).slot.map (fun a => (a.outcome, a.results)) = some (c, r))
  | _ => false

/-- A test of the next state. -/
def next (o : Host.Outcome State Fault Refusal) (f : State → Bool) : Bool :=
  match o with
  | .next t => f t
  | _ => false

/-! ### Well-formed commands -/

theorem test_frame_with_23_mics_refused :
    (Instr.mixFrameEvent (List.replicate 23 0) (List.replicate 8 0)).wellFormed = false := by decide

theorem test_frame_with_9_programmes_refused :
    (Instr.mixFrameEvent (List.replicate 24 0) (List.replicate 9 0)).wellFormed = false := by decide

theorem test_whole_frame_accepted :
    (Instr.mixFrameEvent (List.replicate 24 0) (List.replicate 8 0)).wellFormed = true := by decide

/-! ### Frames written out from 09, section 9.3 -/

theorem test_setWindow_frame : encodeFrame 6 (.setWindow 0 1 0 1 8 7 1 0 1) [] =
    some [6, 0x14, 8, 1, 0, 1, 8, 7, 1, 0, 1] := by decide

theorem test_setGroup_frame_most_significant_first :
    spells [9, 0x36, 3, 2, 0x01, 0x80] [] (.setGroup 0 2 0x0180) = some 9 := by decide

theorem test_filler_is_ignored : spells [8, 0x00, 6, 0, 0, 0, 0, 0, 0] [] (.nop 3) = some 8 := by decide

theorem test_no_table_word (w : Nat) : decodeTableWord 8 w = none := rfl

/-! ### Worked cases of the manual -/

/-- Section 1.9, step 1: QUERY_PART from C1 is answered 0x4E48, 1, 1. -/
theorem test_query_part : replies (exec (.queryPart 1) (asked State.reset 1 [5, 0x01, 0])) 1 .ok [0x4E, 0x48, 1, 1] =
    true := by decide +kernel

/-- R66's table. -/
theorem test_scaling_table : [scale 1 32768, scale (-1) 32768, scale (-3) 32768, scale 3 32768, scale (-2) 49152] =
    [1, 0, -1, 2, -1] := by decide

/-- Table 4-1 and R65: G(12) is 32,846, G(24) is 16,462, and trim +24 is 260,899. -/
theorem test_gain_words : [gain 0, gain 12, gain 24, gain 126, gain 127, trimGain (-12), trimGain 24] =
    [65536, 32846, 16462, 46, 0, 32846, 260899] := by decide

theorem witness_GainWordsFollowTheLaw : (126 : Level).val ≤ 126 ∧ (24 : Level).val ≤ 24 ∧ trimGain (-24) = gain 24 := by decide

theorem witness_ScalingRoundsAndSaturationBounds :
    (-8388608 : Int).natAbs ≤ 8388608 ∧ (-5 : Int) ≤ 5 ∧ saturate (-5) 5 (-6) = -5 ∧ saturate (-5) 5 6 = 5 ∧
      saturate (-5) 5 5 = 5 := by decide

/-- A ramp up, a ramp down and a target set at once. -/
theorem witness_RampReachesItsTarget :
    let up := Ramp.aim (Ramp.rest 0) 65536 48
    let down := Ramp.aim (Ramp.rest 65536) 0 48
    up.cur + up.step ≤ 65536 ∧ 0 + down.step ≤ down.cur ∧ (Ramp.aim (Ramp.rest 9) 5 0).cur = 5 := by decide

/-- Section 6.2, Worked ID: the readings 101, 110, 011, 100 give 0xD6A. -/
theorem test_worked_id : assembleId [0b101, 0b110, 0b011, 0b100] = 0xD6A := by decide

/-- R24's examples: base 1 with mask 62 matches the 24 odd destinations, base 32 with mask 31 matches 16. -/
theorem test_window_counts :
    (List.finRange 48).countP (fun d => ({ wide 0 with base := 1, mask := 62 } : Window).matchesDest d) = 24 ∧
      (List.finRange 48).countP (fun d => ({ wide 0 with base := 32, mask := 31 } : Window).matchesDest d) = 16 ∧
      (List.finRange 48).countP (fun d => ({ wide 0 with base := 56, mask := 0 } : Window).matchesDest d) = 0 := by
  decide

/-- R34: SET_WINDOW naming port 9 from a non-holder is NO_AUTHORITY, from the holder RANGE. -/
theorem test_authority_comes_before_range :
    replies (exec (.setWindow 0 9 0 1 0 0 0 0 0) (asked State.reset 0 [1, 0x14, 8, 9, 0, 1, 0, 0, 0, 0, 0])) 0 .noAuthority [] &&
    replies (exec (.setWindow 0 9 0 1 0 0 0 0 0) (asked (ruled State.reset 0) 0 [1, 0x14, 8, 9, 0, 1, 0, 0, 0, 0, 0])) 0 .range []
      = true := by decide +kernel

/-- R49: a panel's own source is stored at level code 40. -/
theorem test_sidetone_clamp : replies (exec (.routeAdd 1 3 3 0 0) (asked base 1 [1, 0x20, 4, 3, 3, 0, 0])) 1 .ok [1, 40] =
    true := by decide +kernel

/-- R50: a field return never takes its own source. -/
theorem test_field_return_self : replies (exec (.routeAdd 1 40 24 0 0) (asked base 1 [1, 0x20, 4, 40, 24, 0, 0])) 1 .self [] =
    true := by decide +kernel

/-- Section 3.12: the removal's step is 137, the revival's from 19,146 to 20,724 is 7. -/
theorem test_revival_steps :
    (Ramp.aim (Ramp.rest 32846) 0 240).step = 137 ∧ (Ramp.aim { cur := 19146, target := 0, step := 137 } 20724 240).step = 7 := by
  decide

/-- A microphone lane set with one sample on one lane. -/
def mics (n : Nat) (x : Sample) : List Sample := (List.replicate 24 0).set n x

/-- Programme lanes with samples on G0 and G1. -/
def programmes (x y : Sample) : List Sample := [x, y, 0, 0, 0, 0, 0, 0]

/-- Section 4.5: the output of panel speaker 5 is -131,256. -/
theorem test_panel_mix :
    let at_rest : Source → Level → Entry := fun x l =>
      { entry x 0 .active 0 with level := l, ramp := Ramp.rest (gain l) }
    next (exec (.mixFrameEvent (mics 0 1000000) (programmes (BitVec.ofInt 24 (-2000000)) 0))
      (listed 5 2 [at_rest 0 12, at_rest 32 20])) (fun t =>
        decide (t.mix.panelOut.get 5 = -131256 ∧ t.meter 5 = { peak := 131256, clip := false })) = true := by decide +kernel

/-- Section 4.7: an earpiece in SPLIT under a ceiling of code 12, its left channel 3,764,893 and its right 4,204,287, clipped. -/
theorem test_split_ceiling :
    let s := listed 27 2 [{ entry 32 0 .active 0 with ramp := Ramp.rest 65536 }]
    let s := s.putFb 3 { Foldback.reset with bedSource := some 1, bed := Ramp.rest 20724, slotSource := some 9, slot := Ramp.rest 65536 }
    let s := (s.putAcc 3 { s.acc 3 with state := .present, settle := none }).putGate 3 (Ramp.rest 65536)
    let s := { s with ident := { s.ident with profiles := put s.ident.profiles 0 { valid := true, matchId := 0, ceiling := 12, ear := .split } } }
    next (exec (.mixFrameEvent (mics 9 6000000) (programmes 2500000 4000000)) s) (fun t =>
      decide (t.mix.earOut.get 3 = (3764893, 4204287) ∧ (t.meter 27).clip = true)) = true := by decide +kernel

/-! ### Witnesses: the part, ports, authority (01, 02) -/

/-- `s` with a transaction of port `p` in which the frame of the request `i`, tag 7, has been clocked in. -/
def sent (s : State) (p : Port) (i : Instr) : State := asked s p ((encodeFrame 7 i []).getD [])

/-- The request `i` stands spelled on port 1, where `s` has received its frame. -/
def ready (s : State) (i : Instr) : Bool :=
  decide (askingPort i = some 1) && decide ((sent s 1 i).spelled 1 i = some 7)

/-- The request `i`, sent from port 1 on `s`, is answered so. -/
def answers (s : State) (i : Instr) (c : ReplyCode) (r : List Byte) : Bool :=
  ready s i && replies (exec i (sent s 1 i)) 1 c r

/-- A line in a state, with a fill. -/
def lineIn (st : LineState) (fill : Nat) (timer : Option Nat) : LineRec :=
  { LineRec.reset with state := st, depth := 0, buffer := List.replicate fill 5, timer := timer }

/-- `base` with line 2 so. -/
def lined (st : LineState) (fill : Nat) (timer : Option Nat) : State := base.putLine 2 (lineIn st fill timer)

/-- The reference record with line 2 tracked, STABLE and active. -/
def onLine2 (s : State) : State :=
  { s with reference := { s.reference with selected := .field 2, active := .field 2, state := .steady, tracked := some 2,
                                           field := .stable } }

theorem witness_StepTakesTheFrontCommand :
    let s := onLine2 (lined .locked 128 (some 96))
    s.pending = [] ∧ s.reference.active = .field 2 ∧ (s.line 2).receiving = true ∧
      base.pending = [] ∧ base.reference.active = .crystal := by decide +kernel

theorem witness_ChipResetClearsThePart : State.reset.chipReset.nresetLow = true := rfl

theorem witness_TransactionFreezesItsFrame :
    (State.reset.nresetLow = false ∧ (State.reset.port 3).held = false ∧ (State.reset.port 3).txn = none) ∧
      State.reset.chipReset.nresetLow = true := by decide +kernel

/-- R2: an empty slot's frame is NONE with tag 0 and length 0. -/
theorem test_none_frame : next (exec (.transactionBegin 3) State.reset) (fun t =>
    decide ((t.port 3).txn = some { bytes := [], bits := [], frame := [0, 0, 0] })) = true := by decide +kernel

theorem witness_ClockPeriodsShiftBytes :
    (State.reset.port 0).txn = none ∧
      ((State.reset.putPort 0 { State.reset.port 0 with
        txn := some { bytes := [1], bits := List.replicate 7 true, frame := [] } }).port 0).txn =
        some { bytes := [1], bits := [true, true, true, true, true, true, true], frame := [] } ∧
      ((asked State.reset 0 [0x80]).port 0).txn = some { bytes := [0x80], bits := [], frame := [] } := by decide +kernel

/-- The eighth bit completes a byte, most significant bit first. -/
theorem test_eighth_bit : (Transaction.clock { bytes := [], bits := [true, false, false, false, false, false, false], frame := [] }
    true).bytes = [0x81] := by decide +kernel

theorem witness_RequestFramesReadBack :
    requestOf (.readReference 1) = some (0x61, []) ∧
      (encodeFrame 7 (.readReference 1) (List.replicate 60 0xFF)).isSome = true ∧
      spells ((encodeFrame 7 (.readReference 1) (List.replicate 60 0xFF)).getD []) [] (.readReference 1) = some 7 := by
  decide +kernel

theorem witness_FramingTestRunsInOrder :
    replies (exec (.framing 1) (State.reset.putPort 1 { State.reset.port 1 with
      txn := some { bytes := [9], bits := [true], frame := [] } })) 1 .framing [1] &&
    replies (exec (.framing 1) (asked State.reset 1 [9, 0])) 1 .framing [2] &&
    replies (exec (.framing 1) (asked State.reset 1 [9, 0, 61])) 1 .framing [3] &&
    replies (exec (.framing 1) (asked State.reset 1 [9, 0, 1])) 1 .framing [4] &&
    replies (exec (.framing 1) (asked State.reset 1 [9, 0x42, 5, 0, 0, 0, 0, 0])) 1 .framing [5] = true := by decide +kernel

theorem witness_UnknownCodesAreAnswered :
    replies (exec (.unknown 1) (asked State.reset 1 ([9, 0x62, 60] ++ List.replicate 60 0))) 1 .unknown [0x62] = true := by
  decide +kernel

theorem witness_NopAndQueryPartAnswer :
    replies (exec (.nop 1) (asked State.reset 1 ([9, 0x00, 60] ++ List.replicate 60 0))) 1 .ok [] &&
    replies (exec (.queryPart 1) (asked State.reset 1 ([9, 0x01, 60] ++ List.replicate 60 0))) 1 .ok [0x4E, 0x48, 1, 1] =
      true := by decide +kernel

/-- Port 1 with `n` notices in its queue. -/
def noticed (n : Nat) : State :=
  base.putPort 1 { base.port 1 with queue := List.replicate n { kind := .clip, subject := 4 }, overrun := true }

theorem witness_FetchNoticesDrainsInOrder :
    ready (noticed 11) (.fetchNotices 1 11) && ready (noticed 1) (.fetchNotices 1 0) && ready base (.fetchNotices 1 5) &&
    next (exec (.fetchNotices 1 11) (sent (noticed 11) 1 (.fetchNotices 1 11))) (fun t =>
      (t.port 1).overrun && decide ((t.port 1).queue.length = 1)) &&
    next (exec (.fetchNotices 1 0) (sent (noticed 1) 1 (.fetchNotices 1 0))) (fun t => !(t.port 1).overrun) = true := by
  decide +kernel

theorem witness_DepositRespectsCapacity :
    ((State.reset.putPort 2 PortRec.assertReset).port 2).held = true ∧
      (noticed 15).nresetLow = false ∧ ((noticed 15).port 1).held = false ∧ ((noticed 15).port 1).queue.length < 16 ∧
      16 ≤ ((noticed 16).port 1).queue.length := by decide +kernel

theorem witness_PortsKeepApart :
    askingPort (.claimAuthority 1) = some 1 ∧ (sent base 1 (.claimAuthority 1)).spelled 1 (.claimAuthority 1) = some 7 ∧
      next (exec (.claimAuthority 1) (sent base 1 (.claimAuthority 1))) (fun t => decide (t.access.holder = some 1)) = true := by
  decide +kernel

theorem witness_RefusalsChangeNothing :
    answers base (.releaseAuthority 1) .state [] = true ∧ ReplyCode.state ∈ refusals := by decide +kernel

/-- Every request that names something just outside its class. -/
def outOfClass : List Instr :=
  [.readWindow 1 4 1, .readWindow 1 3 2, .setSeizeRight 1 4 1, .setWindow 1 4 0 1 0 0 0 0 0, .setWindow 1 0 2 1 0 0 0 0 0,
   .routeAdd 1 48 0 0 0, .routeAdd 1 47 40 0 0, .routeAdd 1 47 39 0 2, .routeLevel 1 48 0 0, .routeLevel 1 0 40 0,
   .routeRemove 1 48 0, .routeRemove 1 0 40, .routeClear 1 48 0, .routeClear 1 0 4, .routeClear 1 0 254, .readRoutes 1 48,
   .setDest 1 48 0 0, .setTrim 1 40 0, .readLevels 1 48 1, .talkRequest 1 16 0, .talkRequest 1 0 32, .talkRelease 1 16,
   .setFoldback 1 16 32 0 0 0 0 0 0, .setFoldback 1 0 31 0 0 0 0 0 0, .setFoldback 1 0 40 0 0 0 0 0 0,
   .setFoldback 1 0 254 0 0 0 0 0 0, .readFoldback 1 16, .talkGroup 1 8 0, .talkGroup 1 0 32, .releaseGroup 1 8,
   .setGroup 1 8 0, .identify 1 16, .readAccessory 1 16, .setProfile 1 8 0 0 0 0, .setProfile 1 0 0 0 0 4, .fieldStart 1 8,
   .fieldStop 1 8, .fieldPark 1 8, .readField 1 8, .setFieldPlan 1 8 0 0 0 0, .selectReference 1 2, .selectReference 1 15,
   .selectReference 1 24]

theorem witness_NamesOutOfClassAreRefused : outOfClass.all (fun i => answers (ruled base 1) i .range []) = true := by
  decide +kernel

theorem witness_AuthorityChangesHands :
    answers base (.claimAuthority 1) .ok [] && answers (ruled base 1) (.claimAuthority 1) .ok [] &&
    answers (ruled base 3) (.claimAuthority 1) .held [3] && answers (ruled base 1) (.releaseAuthority 1) .ok [] &&
    answers (ruled base 3) (.releaseAuthority 1) .state [] && answers (ruled base 3) (.seizeAuthority 1) .denied [3] &&
    (let s := { base with access := { base.access with seize := put base.access.seize 1 true, holder := some 3 } }
     answers s (.seizeAuthority 1) .ok [] &&
       next (exec (.seizeAuthority 1) (sent s 1 (.seizeAuthority 1))) fun t =>
         decide ((t.port 3).queue = [{ kind := .authorityLost, subject := 1 }])) = true := by decide +kernel

/-- The requests of the Authority class. -/
def authorityClass : List Instr :=
  [.setSeizeRight 1 9 1, .setWindow 1 9 0 1 0 0 0 0 0, .setTrim 1 40 0, .setGroup 1 8 0, .setProfile 1 8 0 0 0 0,
   .setFieldPlan 1 8 0 0 0 0, .selectReference 1 2]

theorem witness_AuthorityClassRefusesOthers :
    authorityClass.all (fun i => answers (ruled base 0) i .noAuthority []) &&
      answers (ruled base 1) (.setWindow 1 9 0 1 0 0 0 0 0) .range [] = true := by decide +kernel

theorem witness_HolderSetsRightsAndWindows :
    answers (ruled base 1) (.setSeizeRight 1 3 0x80) .ok [] &&
    answers (ruled base 1) (.setWindow 1 3 1 1 0x41 0xFF 6 0 7) .ok [] &&
    next (exec (.setWindow 1 3 1 1 0x41 0xFF 6 0 7) (sent (ruled base 1) 1 (.setWindow 1 3 1 1 0x41 0xFF 6 0 7))) (fun t =>
      decide (t.access.window 3 1 =
        { enabled := true, base := 1, mask := 63, priority := 2, listenOnly := false, tag := 3 })) = true := by decide +kernel

theorem witness_WindowsMatchByUnmaskedBits :
    (wide 0).enabled = true ∧ (wide 0).mask = 63 ∧ (wide 0).matchesDest 47 = true := by decide

/-- Write requests whose named things lie in their classes, at the ends of their ranges. -/
def writes : List Instr :=
  [.routeAdd 1 47 39 0 1, .routeLevel 1 0 39 0, .routeRemove 1 47 0, .routeClear 1 47 3, .routeClear 1 0 0xFF,
   .setDest 1 47 0 0, .talkRequest 1 15 31, .talkRelease 1 15, .setFoldback 1 15 39 0 0 0 0 0 0,
   .setFoldback 1 0 0xFF 0 0 0 0 0 0, .identify 1 15, .fieldStart 1 7, .fieldStop 1 7, .fieldPark 1 7]

/-- Read requests likewise. -/
def reads : List Instr := [.readRoutes 1 47, .readFoldback 1 15, .readAccessory 1 15, .readField 1 7]

theorem witness_UncoveredDestinationsAreDenied :
    (writes ++ reads).all (fun i => answers State.reset i .denied [1]) &&
      writes.all (fun i => answers (under State.reset 1 (wide 0 true)) i .denied [2]) = true := by decide +kernel

theorem witness_ConfigurationNeedsTheHolder :
    next (exec (.setTrim 1 0 6) (sent (ruled base 1) 1 (.setTrim 1 0 6))) (fun t => decide ((t.trim 0).target = 92572)) =
      true := by decide +kernel

/-! ### Witnesses: the route store and the mix engine (03, 04) -/

/-- A full list. -/
def twelve : List Entry := (List.range 12).map fun i => entry (Fin.ofNat 40 i) 0 .active 65536

theorem witness_RouteAddFollowsItsChecks :
    answers base (.routeAdd 1 48 0 0 0) .range [] && answers State.reset (.routeAdd 1 3 0 0 0) .denied [1] &&
    answers (under base 1 (wide 0 true)) (.routeAdd 1 3 0 0 0) .denied [2] &&
    answers base (.routeAdd 1 47 31 0 0) .self [] &&
    answers (listed 3 2 [entry 0 0 .active 9]) (.routeAdd 1 3 0 0 0) .state [] &&
    answers (listed 3 2 [entry 5 0 .active 9, entry 0 3 .fadingOut 9]) (.routeAdd 1 3 0 0x85 1) .ok [2, 127] &&
    answers (listed 3 2 twelve) (.routeAdd 1 3 12 0 0) .full [1] &&
    answers { listed 3 2 [] with route := { (listed 3 2 []).route with free := 0 } } (.routeAdd 1 3 12 0 0) .full [2] &&
    answers (listed 3 2 (twelve.take 11)) (.routeAdd 1 3 12 20 1) .ok [1, 20] = true := by decide +kernel

theorem witness_RouteLevelChangesALiveEntry :
    answers base (.routeLevel 1 0 40 0) .range [] && answers State.reset (.routeLevel 1 3 0 0) .denied [1] &&
    answers (under base 1 (wide 0 true)) (.routeLevel 1 3 0 0) .denied [2] &&
    answers base (.routeLevel 1 3 0 0) .absent [] &&
    answers (listed 3 2 [entry 0 0 .fadingOut 9]) (.routeLevel 1 3 0 0) .absent [] &&
    answers (listed 3 2 [entry 0 3 .active 9]) (.routeLevel 1 3 0 0) .protectedEntry [0, 3] &&
    answers (listed 3 2 [entry 3 2 .active 9]) (.routeLevel 1 3 3 0) .ok [40] = true := by decide +kernel

theorem witness_RouteRemoveBeginsTheFade :
    answers base (.routeRemove 1 48 0) .range [] && answers State.reset (.routeRemove 1 3 0) .denied [1] &&
    answers (under base 1 (wide 0 true)) (.routeRemove 1 3 0) .denied [2] && answers base (.routeRemove 1 3 0) .absent [] &&
    answers (listed 3 2 [entry 0 0 .fadingOut 9]) (.routeRemove 1 3 0) .absent [] &&
    answers (listed 3 2 [entry 0 3 .active 9]) (.routeRemove 1 3 0) .protectedEntry [0, 3] &&
    answers (listed 3 2 [entry 0 2 .active 9]) (.routeRemove 1 3 0) .ok [] &&
    next (exec (.routeRemove 1 3 0) (sent (listed 3 0 [entry 0 2 .active 9]) 1 (.routeRemove 1 3 0))) (fun t =>
      decide ((t.dest 3).list = [])) = true := by decide +kernel

theorem witness_RouteClearSortsTheList :
    answers base (.routeClear 1 3 4) .range [] && answers State.reset (.routeClear 1 3 0) .denied [1] &&
    answers (under base 1 (wide 0 true)) (.routeClear 1 3 0) .denied [2] &&
    answers (listed 3 2 [entry 0 2 .active 9, entry 1 3 .active 9, entry 2 0 .fadingOut 9]) (.routeClear 1 3 0xFF) .ok [1, 1] &&
    answers (listed 3 2 [entry 0 2 .active 9]) (.routeClear 1 3 3) .ok [0, 0] = true := by decide +kernel

theorem witness_SetDestAndSetTrimStore :
    answers base (.setDest 1 47 0xFF 7) .ok [] && answers (ruled base 1) (.setTrim 1 39 0x7F) .ok [] &&
    next (exec (.setTrim 1 39 0x80) (sent (ruled base 1) 1 (.setTrim 1 39 0x80))) (fun t =>
      decide ((t.trim 39).target = 16462)) = true := by decide +kernel

theorem witness_ReadRequestsReportTheRecords :
    answers base (.readWindow 1 1 0) .ok [1, 0, 63, 2, 0, 1, 48, 0, 0xFF] &&
    answers (listed 3 1 [entry 0 2 .active 9]) (.readRoutes 1 3) .ok [0, 1, 1, 0x80, 1, 0, 0, 9] &&
    answers base (.readFoldback 1 15) .ok [0, 0xFF, 0xFF, 0, 0, 0, 0, 0xFF, 0, 20, 0, 10, 50, 0, 0, 0, 0] &&
    answers base (.readAccessory 1 15) .ok [1, 0x0F, 0xFF, 7, 0, 12, 0, 7, 0, 0] &&
    answers base (.readField 1 7) .ok [0, 2, 100, 0, 10, 0, 0, 0, 0, 0, 0, 0, 0, 0, 0, 0] &&
    answers base (.readReference 1) .ok [0, 1, 2, 0xFF, 0, 0, 0, 0, 0, 0, 0] = true := by decide +kernel

theorem witness_FrameFormsTheOutputs :
    (List.replicate 24 (1000 : Sample)).length = 24 ∧ (List.replicate 8 (0 : Sample)).length = 8 ∧
      next (exec (.mixFrameEvent (List.replicate 24 1000) (List.replicate 8 0)) (listed 3 2 [entry 0 2 .active 65536]))
        (fun t => decide (t.mix.panelOut.get 3 = 1000 ∧ (t.meter 3).peak = 1000)) = true := by decide +kernel

theorem witness_ReadLevelsReadsAndClears :
    answers base (.readLevels 1 47 14) .ok [47, 1, 0, 0, 0, 0] && ready base (.readLevels 1 0 0) = true := by decide +kernel

/-! ### Witnesses: foldback (05) -/

/-- A talk record of a port. -/
def talker (p : Port) (priority : BitVec 2) (arrival : Nat) : TalkRec :=
  { port := p, talker := 9, priority := priority, tag := 0, origin := none, arrival := arrival }

/-- `base` with the foldback record of E3 so. -/
def talking (st : FoldbackState) (holder : Option TalkRec) (queue : List TalkRec) (lead : Fin 21) (hold : Byte) : State :=
  let s := base.putFb 3 { Foldback.reset with state := st, holder := holder, queue := queue, lead := lead, hold := hold,
                                              stateTimer := some 0, limitTimer := some 0 }
  { s with foldback := { s.foldback with arrivals := 7 } }

theorem witness_TalkIsGrantedOnAFreeEarpiece :
    answers (talking .idle none [] 10 5) (.talkRequest 1 3 9) .ok [1] &&
    answers (talking .idle none [] 0 5) (.talkRequest 1 3 31) .ok [2] &&
    answers (talking .hold none [] 10 5) (.talkRequest 1 3 9) .ok [2] = true := by decide +kernel

/-- R115: the withdrawn holder's earpiece goes to the port that waits, with TALK_GRANTED. -/
theorem witness_PortResetReachesEveryOwner :
    let s := talking .talk (some (talker 1 2 0)) [talker 3 2 1] 10 5
    (s.port 1).held = false ∧ ((State.reset.putPort 2 PortRec.assertReset).port 2).held = true ∧
      next (exec (.prstAssert 1) s) (fun t => decide ((t.fb 3).holder = some (talker 3 2 1) ∧
        (t.port 3).queue = [{ kind := .talkGranted, subject := 3, d0 := 9 }])) = true := by decide +kernel

theorem witness_TalkWaitsBehindAnEqualHolder :
    answers (talking .talk (some (talker 1 2 0)) [] 10 5) (.talkRequest 1 3 9) .state [1] &&
    answers (talking .talk (some (talker 0 2 0)) [talker 1 2 1] 10 5) (.talkRequest 1 3 9) .state [2] &&
    answers (talking .talk (some (talker 0 2 0)) [talker 2 2 1, talker 3 2 2] 10 5) (.talkRequest 1 3 9) .full [3] &&
    answers (talking .talk (some (talker 0 2 0)) [talker 2 2 1] 10 5) (.talkRequest 1 3 9) .queued [2, 0] &&
    answers (talking .talk (some (talker 0 3 0)) [talker 2 1 1] 10 5) (.talkRequest 1 3 9) .queued [1, 0] = true := by
  decide +kernel

theorem witness_TalkPreemptsALowerHolder :
    answers (talking .lead (some (talker 0 1 0)) [talker 2 1 1] 10 5) (.talkRequest 1 3 9) .ok [1] &&
    answers (talking .talk (some (talker 0 1 0)) [] 10 5) (.talkRequest 1 3 9) .ok [2] &&
    next (exec (.talkRequest 1 3 9) (sent (talking .talk (some (talker 0 1 0)) [talker 2 1 1, talker 3 0 2] 10 5) 1
      (.talkRequest 1 3 9))) (fun t =>
        decide ((t.fb 3).queue = [talker 0 1 0, talker 2 1 1] ∧ (t.port 3).queue =
          [{ kind := .talkEnded, subject := 3, d0 := 2 }])) = true := by decide +kernel

theorem witness_TalkReleaseHandsOver :
    answers (talking .talk (some (talker 1 2 0)) [talker 0 1 1] 10 5) (.talkRelease 1 3) .ok [1] &&
    answers (talking .talk (some (talker 1 2 0)) [] 10 5) (.talkRelease 1 3) .ok [1] &&
    answers (talking .lead (some (talker 1 2 0)) [] 10 0) (.talkRelease 1 3) .ok [1] &&
    answers (talking .talk (some (talker 0 2 0)) [talker 2 1 1, talker 1 1 2] 10 5) (.talkRelease 1 3) .ok [2] &&
    answers (talking .talk (some (talker 0 2 0)) [] 10 5) (.talkRelease 1 3) .absent [] = true := by decide +kernel

theorem witness_FoldbackTimersExpire :
    next (exec (.leadExpiry 3) (talking .lead (some (talker 0 1 0)) [] 10 5)) (fun t =>
      decide ((t.fb 3).state = .talk ∧ (t.fb 3).slotSource = some 9)) &&
    next (exec (.holdExpiry 3) (talking .hold none [] 10 5)) (fun t => decide ((t.fb 3).state = .idle)) &&
    next (exec (.limitExpiry 3) (talking .talk (some (talker 0 1 0)) [] 10 5)) (fun t => decide ((t.fb 3).state = .hold ∧
      (t.port 0).queue = [{ kind := .talkEnded, subject := 3, d0 := 1 }])) &&
    decide ((base.fb 3).stateTimer ≠ some 0 ∧ (base.fb 3).limitTimer ≠ some 0) = true := by decide +kernel

theorem witness_SetFoldbackActsOnTheRunningState :
    answers base (.setFoldback 1 15 39 30 20 0xFF 21 5 0) .ok [30, 30] &&
    answers (talking .talk (some (talker 0 1 0)) [] 10 5) (.setFoldback 1 3 0xFF 30 0xFF 4 20 0 9) .ok [30, 127] = true := by
  decide +kernel

theorem witness_GroupsVisitTheirMembers :
    let s := { base with foldback := { base.foldback with groups := put base.foldback.groups 7 0x8008 } }
    answers (ruled base 1) (.setGroup 1 7 0xFFFF) .ok [16] && answers s (.talkGroup 1 7 9) .ok [2, 3, 1, 15, 1] &&
    answers s (.releaseGroup 1 7) .ok [2, 3, 10, 15, 10] && answers s (.talkGroup 1 0 31) .ok [0] &&
    answers s (.talkRequest 1 15 31) .ok [1] && answers s (.talkRelease 1 15) .absent [] &&
    decide (((base.talkOn 1 3 9 (some 7)).1.fb 3).holder.map (·.origin) = some (some 7) ∧
      (base.talkOn 1 3 9 none).2.outcome = .ok ∧ (State.reset.talkOn 1 3 9 none).2.outcome = .denied) = true := by
  decide +kernel

/-! ### Witnesses: identification (06) -/

/-- `base` with E3's accessory so; its connector answers 101, 110, 011, 100. -/
def plugged (st : AccessoryState) (readings : List Contacts) (bias : Fin 4) (settle debounce : Option Nat) : State :=
  base.putAcc 3 { Accessory.reset #v[0b101, 0b110, 0b011, 0b100] with
    state := st, readings := readings, bias := some bias, settle := settle, debounce := debounce }

theorem witness_ProbesStart :
    answers (plugged .probing [] 0 (some 96) none) (.identify 1 3) .busy [] &&
    answers (plugged .present [] 3 none none) (.identify 1 3) .accepted [] &&
    next (exec (.debounceExpiry 3) (plugged .absent [] 3 none (some 0))) (fun t => decide ((t.acc 3).state = .probing)) =
      true := by decide +kernel

/-- The worked ID of section 6.2. -/
theorem witness_ProbesStepAndComplete :
    next (exec (.settleTimerExpiry 3) (plugged .probing [0b101, 0b110] 2 (some 0) none)) (fun t =>
      decide ((t.acc 3).readings = [0b101, 0b110, 0b011] ∧ (t.acc 3).bias = some 3)) &&
    next (exec (.settleTimerExpiry 3) (plugged .probing [0b101, 0b110, 0b011] 3 (some 0) none)) (fun t =>
      decide ((t.acc 3).id = 0xD6A ∧ (t.acc 3).state = .present ∧
        (t.port 1).queue = [{ kind := .accessory, subject := 3, d0 := 0x0D, d1 := 0x6A, d2 := 2, d3 := 0 }])) = true := by
  decide +kernel

theorem witness_PlugDetectWatchesTheContacts :
    next (exec (.contactReadingChange 3 1 2 3 4) (plugged .probing [] 0 (some 9) none)) (fun t =>
      decide ((t.acc 3).debounce = none)) &&
    next (exec (.contactReadingChange 3 1 2 3 7) (plugged .absent [] 3 none (some 9))) (fun t =>
      decide ((t.acc 3).debounce = none)) &&
    next (exec (.contactReadingChange 3 1 2 3 4) (plugged .absent [] 3 none none)) (fun t =>
      decide ((t.acc 3).debounce = some 960)) &&
    next (exec (.contactReadingChange 3 1 2 3 5) (plugged .present [] 3 none (some 9))) (fun t =>
      decide ((t.acc 3).debounce = some 9)) = true := by decide +kernel

theorem witness_SetProfileLooksUpAfresh :
    answers (ruled (base.putAcc 3 { base.acc 3 with state := .present, id := 0xD6A }) 1)
      (.setProfile 1 7 1 0xFD6A 0xFF 3) .ok [1] &&
    answers (ruled base 1) (.setProfile 1 0 0 0 3 1) .ok [0] = true := by decide +kernel

/-! ### Witnesses: field lines (07) -/

theorem witness_LineChangesAreReported :
    let s := onLine2 (lined .locked 128 (some 96))
    s.reference.tracked = some 2 ∧ (s.line 2).state = .locked ∧ s.reference.active = .field 2 ∧
      (s.changeLine 2 (lineIn .lost 0 (some 24000)) .stall).reference.active = .crystal ∧
      (base.reference.tracked ≠ some 2) := by decide +kernel

theorem witness_FieldLinesStartStopAndPark :
    answers (lined .parked 0 none) (.fieldStart 1 2) .accepted [] && answers (lined .lost 0 none) (.fieldStart 1 2) .state [4] &&
    answers (onLine2 (lined .locked 128 none)) (.fieldStop 1 2) .state [0x80] &&
    answers (lined .idle 0 none) (.fieldStop 1 2) .ok [] && answers (lined .parked 0 none) (.fieldStop 1 2) .ok [] &&
    answers (onLine2 (lined .locked 128 none)) (.fieldPark 1 2) .state [0x80] &&
    answers (lined .idle 0 none) (.fieldPark 1 2) .state [0] && answers (lined .parked 0 none) (.fieldPark 1 2) .ok [] &&
    answers (lined .centering 3 none) (.fieldPark 1 2) .ok [] = true := by decide +kernel

theorem witness_FieldLineEventsMoveTheLine :
    next (exec (.receiverLock 2) (lined .acquiring 0 (some 3))) (fun t => decide ((t.line 2).state = .centering)) &&
    next (exec (.receiverLockLoss 2) (lined .locked 128 (some 3))) (fun t => decide ((t.line 2).state = .lost)) &&
    next (exec (.stallExpiry 2) (lined .centering 3 (some 0))) (fun t => decide ((t.line 2).lastCause = .stall)) &&
    next (exec (.acquireExpiry 2) (lined .acquiring 0 (some 0))) (fun t => decide ((t.line 2).state = .parked)) &&
    next (exec (.retryExpiry 2) (lined .lost 0 (some 0))) (fun t => decide ((t.line 2).state = .acquiring)) &&
    next (exec (.fieldCall 2) (lined .parked 0 none)) (fun t => decide ((t.line 2).state = .parked ∧
      (t.port 1).queue = [{ kind := .fieldCall, subject := 2 }])) &&
    next (exec (.fieldCall 2) (base.putLine 2 { lineIn .parked 0 none with autoWake := true })) (fun t =>
      decide ((t.line 2).state = .acquiring)) = true := by decide +kernel

/-- Depth code 0: D is 256 and U is 8; LOCKED lies strictly between 64 and 192. -/
theorem witness_FieldBufferFollowsWritesAndReads :
    next (exec (.fieldWrite 2 1) (lined .centering 126 (some 9))) (fun t => decide ((t.line 2).state = .centering)) &&
    next (exec (.fieldWrite 2 1) (lined .centering 127 (some 9))) (fun t => decide ((t.line 2).state = .locked)) &&
    next (exec (.fieldWrite 2 1) (lined .locked 190 (some 9))) (fun t => decide ((t.line 2).fill = 191)) &&
    next (exec (.fieldWrite 2 1) (lined .locked 191 (some 9))) (fun t =>
      decide ((t.line 2).fill = 184 ∧ (t.line 2).forcedSlips = 1)) &&
    next (exec (.fieldRead 2) (base.putLine 2 { lineIn .locked 66 (some 9) with replay := List.replicate 64 1 }))
      (fun t => decide ((t.line 2).fill = 65)) &&
    next (exec (.fieldRead 2) (base.putLine 2 { lineIn .locked 65 (some 9) with replay := List.replicate 64 1 }))
      (fun t => decide ((t.line 2).fill = 72 ∧ (t.line 2).forcedSlips = 1 ∧ (t.line 2).replay.length = 56)) &&
    next (exec (.fieldRead 2) (base.putLine 2 { lineIn .locked 137 (some 9) with quietRun := 480 }))
      (fun t => decide ((t.line 2).fill = 128 ∧ (t.line 2).quietSlips = 1)) &&
    next (exec (.fieldRead 2)
      (base.putLine 2 { lineIn .locked 121 (some 9) with quietRun := 480, replay := List.replicate 64 1 }))
      (fun t => decide ((t.line 2).fill = 128 ∧ (t.line 2).quietSlips = 1)) &&
    next (exec (.activeReferenceSample 2 1) (onLine2 (lined .locked 128 (some 9)))) (fun t =>
      decide ((t.line 2).fill = 128 ∧ (t.line 2).delivered = some 5)) = true := by decide +kernel

theorem witness_FieldPlansKeepTheDepthBudget :
    answers (ruled (lined .locked 128 none) 1) (.setFieldPlan 1 2 1 0 0 0) .state [3] &&
    answers (ruled base 1) (.setFieldPlan 1 7 3 0 1 0) .full [4] &&
    answers (ruled base 1) (.setFieldPlan 1 7 6 0xFF 1 0xFF) .ok [0, 0] &&
    answers (ruled base 1) (.setFieldPlan 1 7 0 0 1 0) .ok [3, 0] = true := by decide +kernel

/-! ### Witnesses: the reference clock (08) -/

theorem witness_SelectReferenceIsJudged :
    answers (ruled (onLine2 (lined .locked 128 none)) 1) (.selectReference 1 0x17) .state [2] &&
    answers (ruled base 1) (.selectReference 1 1) .ok [1, 1, 0] &&
    answers (ruled (onLine2 (lined .locked 128 none)) 1) (.selectReference 1 1) .ok [1, 1, 0] &&
    answers (ruled base 1) (.selectReference 1 0x17) .accepted [1, 0x17, 1] = true := by decide +kernel

/-- `base` with the reference record changed. -/
def referred (f : RefUnit → RefUnit) : State := { base with reference := f base.reference }

theorem witness_ReferenceEventsMoveTheRecord :
    next (exec .housePresence base) (fun t => decide (t.reference.house = .settling)) &&
    next (exec .houseAbsence (referred fun r => { r with
        house := .stable, active := .house, selected := .house, state := .steady }))
      (fun t => decide (t.reference.active = .crystal ∧ t.reference.state = .holdover)) &&
    next (exec .houseSettleExpiry (referred fun r => { r with house := .settling, houseSettle := some 0 }))
      (fun t => decide (t.reference.active = .house ∧ t.reference.state = .steady)) &&
    next (exec .fieldSettleExpiry (referred fun r => { r with
        tracked := some 2, field := .settling, fieldSettle := some 0, selected := .field 2, state := .switching }))
      (fun t => decide (t.reference.active = .field 2 ∧ t.reference.state = .steady)) &&
    next (exec .switchDeadlineExpiry (referred fun r => { r with state := .switching, deadline := some 0 }))
      (fun t => decide (t.reference.selected = .crystal ∧ (t.port 2).queue =
        [{ kind := .reference, subject := 0, d0 := 1, d1 := 1, d2 := 0, d3 := 4 }])) = true := by decide +kernel

/-! ### Witnesses: the invariants -/

/-- The state after reset with one command waiting; every invariant is met there, and the step answers a next state. -/
def waiting (c : Instr) : State := { State.reset with pending := [c] }

theorem witness_FrameStepsGainsAndTimers :
    next (step (waiting (.mixFrameEvent (List.replicate 24 0) (List.replicate 8 0)))) (fun t =>
      decide ((t.acc 3).settle = some 95)) = true := by decide +kernel

theorem waiting_ports_sound (c : Instr) : PortsSound (waiting c) := by
  intro p
  simp [waiting, State.reset, State.port, PortRec.reset, PortRec.Sound]

theorem witness_StepKeepsPortsSound :
    PortsSound (waiting (.transactionBegin 0)) ∧
      next (step (waiting (.transactionBegin 0))) (fun t => decide ((t.port 0).txn ≠ none)) = true :=
  ⟨waiting_ports_sound _, by decide +kernel⟩

theorem witness_StepKeepsTheRouteStoreAndMixSound :
    (listed 3 2 []).route.Sound ∧
      next (step { sent (listed 3 2 []) 1 (.routeAdd 1 3 0 0 0) with pending := [.routeAdd 1 3 0 0 0] })
        (fun t => decide (t.route.free = 383)) = true := by
  refine ⟨?_, by decide +kernel⟩
  unfold RouteStore.Sound ListSound Entry.Sound
  refine ⟨?_, ?_, ?_⟩
  · decide +kernel
  · have none_listed : ∀ d, ((listed 3 2 []).route.dests.get d).list = [] := by decide +kernel
    intro d
    rw [none_listed d]
    simp [Config.listCapacity]
  · decide +kernel

theorem witness_StepKeepsTheFoldbackUnitSound :
    (waiting (.leadExpiry 0)).foldback.Sound ∧ ∃ t, step (waiting (.leadExpiry 0)) = .next t := by
  refine ⟨?_, _, rfl⟩
  have at_reset : ∀ e, (waiting (.leadExpiry 0)).foldback.recs.get e = Foldback.reset := by decide +kernel
  intro e
  rw [at_reset e]
  simp [Foldback.Sound, Foldback.reset, Foldback.records, QueueOrdered, Foldback.bedTarget, Ramp.rest]

theorem reset_accessories_sound : AccessoriesSound State.reset := by
  refine ⟨by decide +kernel, ?_⟩
  have at_reset : ∀ e, State.reset.acc e = Accessory.resetProbe unplugged ∧
      (State.reset.gate e).target = 0 ∧ (State.reset.gate e).cur = 0 := by decide +kernel
  intro e
  rw [(at_reset e).1]
  simp [Accessory.Sound, Accessory.resetProbe, Accessory.reset, State.reset]
  exact (at_reset e).2

theorem witness_StepKeepsTheAccessoriesSound :
    PortsSound (waiting (.debounceExpiry 0)) ∧ AccessoriesSound (waiting (.debounceExpiry 0)) ∧
      ∃ t, step (waiting (.debounceExpiry 0)) = .next t :=
  ⟨waiting_ports_sound _, reset_accessories_sound, _, rfl⟩

theorem witness_OutputsStayWithinLimits :
    State.reset.mix.Sound ∧ AccessoriesSound State.reset ∧ (State.reset.acc 3).state ≠ .present := by
  refine ⟨?_, reset_accessories_sound, by decide +kernel⟩
  unfold MixEngine.Sound
  decide +kernel

theorem witness_StepKeepsTheFieldLinesSound :
    (waiting (.receiverLock 0)).field.Sound ∧ ∃ t, step (waiting (.receiverLock 0)) = .next t := by
  refine ⟨⟨by decide +kernel, ?_⟩, _, rfl⟩
  have at_reset : ∀ k, (waiting (.receiverLock 0)).field.lines.get k = LineRec.reset := by decide +kernel
  intro k
  rw [at_reset k]
  simp [LineRec.Sound, LineRec.reset]

theorem witness_StepKeepsTheReferenceSound :
    PortsSound (waiting .housePresence) ∧ LinesDownInReset (waiting .housePresence) ∧
      ReferenceSound (waiting .housePresence) ∧ ∃ t, step (waiting .housePresence) = .next t := by
  refine ⟨waiting_ports_sound _, by simp [LinesDownInReset, waiting, State.reset], ?_, _, rfl⟩
  simp [ReferenceSound, waiting, State.reset, RefUnit.reset, RefUnit.stability]

theorem witness_StepKeepsHeldPortsFromOwning :
    PortsSound (waiting (.prstAssert 0)) ∧ (waiting (.prstAssert 0)).foldback.Sound ∧ HeldOwnsNothing (waiting (.prstAssert 0)) ∧
      next (step (waiting (.prstAssert 0))) (fun t => (t.port 0).held) = true := by
  refine ⟨waiting_ports_sound _, ?_, ?_, by decide +kernel⟩
  · exact witness_StepKeepsTheFoldbackUnitSound.1
  · intro p h
    simp [waiting, State.reset, State.port, PortRec.reset] at h

end Sys2Proof.Tests
end

/-! SUPPORT. Proofs about the control ports' own answers (01): what the framing test makes of each kind of frame, and what
FRAMING, UNKNOWN, NOP and QUERY_PART then answer. -/

namespace Sys2Proof

/-! ### The framing test, one equation for each verdict (R3, R4, R5) -/

theorem classify_bitsLeft {bytes : List Byte} {bits : List Bool} (left : bits ≠ []) :
    classify bytes bits = .malformed (bytes.headD 0) .bitsLeft := by
  simp [classify, left]

theorem classify_short {bytes : List Byte} (short : bytes.length < 3) :
    classify bytes [] = .malformed (bytes.headD 0) .short := by
  match bytes, short with
  | [], _ => rfl
  | [_], _ => rfl
  | [_, _], _ => rfl

section WholeFrame
variable {tag code len : Byte} {params : List Byte} {n : Nat}

theorem classify_length (long : 60 < len.toNat) :
    classify (tag :: code :: len :: params) [] = .malformed tag .length := by
  simp [classify, maxParams, long]

theorem classify_count (fits : len.toNat ≤ 60) (miscounted : params.length ≠ len.toNat) :
    classify (tag :: code :: len :: params) [] = .malformed tag .count := by
  simp [classify, maxParams, Nat.not_lt.mpr fits, miscounted]

theorem classify_unknownCode (fits : len.toNat ≤ 60) (counted : params.length = len.toNat)
    (unknown : paramCount code = none) :
    classify (tag :: code :: len :: params) [] = .unknownCode tag code := by
  simp [classify, maxParams, Nat.not_lt.mpr fits, counted, unknown]

theorem classify_params (fits : len.toNat ≤ 60) (counted : params.length = len.toNat)
    (known : paramCount code = some n) (few : params.length < n) :
    classify (tag :: code :: len :: params) [] = .malformed tag .params := by
  simp [classify, maxParams, Nat.not_lt.mpr fits, counted, known, counted ▸ few]

theorem classify_request (fits : len.toNat ≤ 60) (counted : params.length = len.toNat)
    (known : paramCount code = some n) (enough : n ≤ params.length) :
    classify (tag :: code :: len :: params) [] = .request tag code params := by
  simp [classify, maxParams, Nat.not_lt.mpr fits, counted, known, Nat.not_lt.mpr (counted ▸ enough)]

end WholeFrame

/-- The request codes of 09, section 9.3. -/
def knownCodes : List Byte :=
  [0x00, 0x01, 0x02, 0x10, 0x11, 0x12, 0x13, 0x14, 0x15, 0x20, 0x21, 0x22, 0x23, 0x24, 0x25, 0x26, 0x27, 0x30,
    0x31, 0x32, 0x33, 0x34, 0x35, 0x36, 0x40, 0x41, 0x42, 0x50, 0x51, 0x52, 0x53, 0x54, 0x60, 0x61]

/-- Both tables of codes, compared over the 256 bytes. -/
theorem paramCount_eq_none_iff : ∀ code : Byte, paramCount code = none ↔ code ∉ knownCodes := by
  decide

end Sys2Proof

namespace Sys2Proof.Machine

/-! ### What a SEL rise does, by the verdict on the port's inbound bytes -/

section SelRise
variable {s : State} {p : Port} {tag code : Byte}

theorem verdict_of_txn {t : Transaction} (txn : (s.port p).txn = some t) :
    s.verdict p = some (classify t.bytes t.bits) := by
  simp [State.verdict, txn]

theorem exec_framing_of_malformed {reason : FramingReason} (h : s.verdict p = some (.malformed tag reason)) :
    exec (.framing p) s =
      .next ((s.endTransaction p).reply p tag { outcome := .framing, results := [reason.code] }) := by
  simp [exec, execFraming, h]

theorem exec_unknown_of_unknownCode (h : s.verdict p = some (.unknownCode tag code)) :
    exec (.unknown p) s =
      .next ((s.endTransaction p).reply p tag { outcome := .unknown, results := [code] }) := by
  simp [exec, execUnknown, h]

/-- A request frame spells the request of its code whose parameters it begins with; the parameters after those are filler
(R4). -/
theorem spelled_of_request {i : Instr} {ps filler : List Byte} (h : s.verdict p = some (.request tag code (ps ++ filler)))
    (hi : requestOf i = some (code, ps)) : s.spelled p i = some tag := by
  obtain ⟨t, txn, verdict⟩ := Option.map_eq_some_iff.mp h
  simp [State.spelled, spells, txn, verdict, hi]

theorem exec_nop_of_spelled (h : s.spelled p (.nop p) = some tag) :
    exec (.nop p) s = .next ((s.endTransaction p).reply p tag (okAnswer [])) :=
  takeRequest_spelled (fun s => (s, okAnswer [])) h

theorem exec_queryPart_of_spelled (h : s.spelled p (.queryPart p) = some tag) :
    exec (.queryPart p) s = .next ((s.endTransaction p).reply p tag (okAnswer [0x4E, 0x48, 1, byte p.val])) :=
  takeRequest_spelled (fun s => (s, okAnswer [0x4E, 0x48, 1, byte p.val])) h

end SelRise

/-! ### The statements -/

/-- Settles O9: each clause is the framing test's verdict on a frame of its kind, answered by FRAMING. -/
theorem framingTestRunsInOrder : Obligations.FramingTestRunsInOrder := by
  unfold Obligations.FramingTestRunsInOrder
  rintro s p ⟨bytes, bits, frame⟩ txn answer
  have framed {reason : FramingReason} (h : classify bytes bits = .malformed (bytes.headD 0) reason) :
      exec (.framing p) s = answer reason.code :=
    exec_framing_of_malformed (by rw [verdict_of_txn txn, h])
  refine ⟨fun left => framed (classify_bitsLeft left), ?_, ?_⟩
  · rintro rfl short
    exact framed (classify_short short)
  · rintro tag code len params rfl rfl
    have frame_length : (tag :: code :: len :: params).length = 3 + params.length := by
      simp only [List.length_cons]; omega
    simp only [frame_length]
    refine ⟨fun long => framed (classify_length long), fun fits miscounted => ?_, fun fits counted => ⟨by omega, ?_⟩⟩
    · exact framed (classify_count fits (by omega))
    · intro n known few
      exact framed (classify_params fits (by omega) known few)

/-- Settles O10: a code outside 09, section 9.3, has no parameter count, so the well-formed frame's verdict is UNKNOWN. -/
theorem unknownCodesAreAnswered : Obligations.UnknownCodesAreAnswered := by
  unfold Obligations.UnknownCodesAreAnswered
  rintro s p ⟨bytes, bits, frame⟩ tag code len params txn rfl rfl fits counted unlisted
  have unknown : paramCount code = none := (paramCount_eq_none_iff code).mpr unlisted
  exact exec_unknown_of_unknownCode (by rw [verdict_of_txn txn, classify_unknownCode fits counted unknown])

/-- Settles O11: both codes use no parameter, so a well-formed frame of either spells its request whatever follows. -/
theorem nopAndQueryPartAnswer : Obligations.NopAndQueryPartAnswer := by
  unfold Obligations.NopAndQueryPartAnswer
  rintro s p ⟨bytes, bits, frame⟩ tag len params txn rfl fits counted
  have spelled {code : Byte} {i : Instr} (hbytes : bytes = tag :: code :: len :: params)
      (uses_none : paramCount code = some 0) (hi : requestOf i = some (code, [])) : s.spelled p i = some tag := by
    subst hbytes
    exact spelled_of_request (by rw [verdict_of_txn txn, classify_request fits counted uses_none (Nat.zero_le _)]; rfl) hi
  exact ⟨fun nop => exec_nop_of_spelled (spelled nop rfl rfl),
    fun query => exec_queryPart_of_spelled (spelled query rfl rfl)⟩

end Sys2Proof.Machine

/-! SUPPORT. Proofs about access windows and configuration authority (02): the destinations a window matches, bit by bit, and
the requests that only the holder of configuration authority may make. -/

namespace Sys2Proof.Machine

/-! ### The destinations a window matches (R24) -/

section Matching
variable {w : Window}

theorem matchesDest_iff (w : Window) (d : Dest) :
    w.matchesDest d = true ↔
      w.enabled = true ∧ ∀ i : Fin 6, w.mask.getLsbD i.val = false → d.val.testBit i.val = w.base.getLsbD i.val := by
  have bitwise : (BitVec.ofNat 6 d.val ^^^ w.base) &&& ~~~w.mask = 0 ↔
      ∀ i : Fin 6, w.mask.getLsbD i.val = false → d.val.testBit i.val = w.base.getLsbD i.val := by
    rw [BitVec.eq_of_getLsbD_eq_iff, Fin.forall_iff]
    refine forall₂_congr fun i hi => ?_
    cases masked : w.mask.getLsbD i <;> simp [-BitVec.getLsbD_eq_getElem, BitVec.getLsbD_ofNat, hi, masked]
  simp only [Window.matchesDest, Bool.and_eq_true, decide_eq_true_iff, bitwise]

/-- A window whose mask leaves no bit free matches the one destination its base names. -/
theorem matchesDest_iff_eq_base (on : w.enabled = true) (unmasked : w.mask = 0) (d : Dest) :
    w.matchesDest d = true ↔ d.val = w.base.toNat := by
  have small : d.val % 64 = d.val := Nat.mod_eq_of_lt (by omega)
  have whole (v : BitVec 6) : v &&& ~~~0 = v := BitVec.and_allOnes
  simp only [Window.matchesDest, on, unmasked, whole, Bool.true_and, decide_eq_true_iff]
  simp [← BitVec.toNat_inj, small]

/-- A window whose mask frees every bit but bit `k` matches by that bit alone. -/
theorem matchesDest_iff_testBit {k : Fin 6} (on : w.enabled = true) (one : ∀ i : Fin 6, w.mask.getLsbD i.val = false ↔ i = k)
    (d : Dest) : w.matchesDest d = true ↔ d.val.testBit k.val = w.base.getLsbD k.val := by
  simp only [matchesDest_iff, on, one, true_and, forall_eq]

end Matching

/-! ### Requests of the Authority class (R34) -/

section AuthorityClass
variable {s : State} {p : Port} {i : Instr} {tag : Byte}

theorem takeRequest_withAuthority_holder (act : State → State × Answer) (h : s.spelled p i = some tag)
    (holds : s.access.holder = some p) :
    takeRequest s p i (withAuthority p act) =
      .next ((act (s.endTransaction p)).1.reply p tag (act (s.endTransaction p)).2) := by
  rw [takeRequest_spelled _ h, withAuthority_holder act (by simpa using holds)]

theorem takeRequest_withAuthority_other (act : State → State × Answer) (h : s.spelled p i = some tag)
    (other : s.access.holder ≠ some p) :
    takeRequest s p i (withAuthority p act) = .next ((s.endTransaction p).reply p tag noAuthorityAnswer) := by
  rw [takeRequest_spelled _ h, withAuthority_other act (by simpa using other)]

theorem setWindow_outOfRange {port window a b c d e f : Byte} (h : inClass 4 port = none) :
    setWindow port window a b c d e f s = (s, rangeAnswer) := by
  simp [setWindow, h]

end AuthorityClass

/-! ### The statements -/

/-- Settles O18: the seven requests of the class are taken behind the check for the holder, which answers before the request
looks at its parameters. -/
theorem authorityClassRefusesOthers : Obligations.AuthorityClassRefusesOthers := by
  unfold Obligations.AuthorityClassRefusesOthers
  intro i p s tag asks spelled
  refine ⟨fun authorityClass other => ?_, ?_⟩
  · have guarded : ∃ act, exec i s = takeRequest s p i (withAuthority p act) := by
      split at authorityClass
      case h_8 => exact authorityClass.elim
      all_goals
        cases asks
        exact ⟨_, rfl⟩
    obtain ⟨act, taken⟩ := guarded
    rw [taken, takeRequest_withAuthority_other act spelled other]
    rfl
  · rintro w a b c d e f rfl holds
    have taken : exec (.setWindow p 9 w a b c d e f) s =
        takeRequest s p (.setWindow p 9 w a b c d e f) (withAuthority p (setWindow 9 w a b c d e f)) := rfl
    rw [taken, takeRequest_withAuthority_holder _ spelled holds, setWindow_outOfRange rfl]
    exact ⟨[], rfl⟩

/-- Settles O20: R24's patterns are windows with no bit free, every bit free, or all bits free but one; no destination is 56. -/
theorem windowsMatchByUnmaskedBits : Obligations.WindowsMatchByUnmaskedBits := by
  unfold Obligations.WindowsMatchByUnmaskedBits
  refine ⟨matchesDest_iff, fun w on => ⟨matchesDest_iff_eq_base on, ?_, ?_, ?_, ?_⟩⟩
  · intro mask d
    have allFree : ∀ i : Fin 6, (63 : BitVec 6).getLsbD i.val = true := by decide
    simp only [matchesDest_iff, on, mask, allFree, true_and, Bool.true_eq_false, false_implies, implies_true]
  · intro base mask d
    have bit : w.matchesDest d = true ↔ d.val.testBit 0 = true := by
      simpa [base] using matchesDest_iff_testBit (k := 0) on (by rw [mask]; decide) d
    simpa using bit
  · intro base mask d
    have bit : w.matchesDest d = true ↔ d.val.testBit 5 = true := by
      simpa [base] using matchesDest_iff_testBit (k := 5) on (by rw [mask]; decide) d
    have testBit_five : ∀ d : Dest, d.val.testBit 5 = true ↔ 32 ≤ d.val := by decide
    rw [bit, testBit_five]
  · intro base mask d
    have beyond : d.val ≠ (56 : BitVec 6).toNat := by simp; omega
    rw [← Bool.not_eq_true, matchesDest_iff_eq_base on mask, base]
    exact beyond

end Sys2Proof.Machine

/-! SUPPORT. What each command leaves unchanged: the units of the state that a command may write, the deposits it makes, and for
each request what its owner can do, said once. -/

namespace Sys2Proof.Machine

/-! ### The units a command may write -/

/-- The parts of the state apart from the control ports and the waiting commands. -/
inductive Part where
  | nreset | access | route | mix | foldback | ident | field | reference
  deriving DecidableEq

/-- The units that a command may write, whatever it does to the ports. -/
def units : Instr → List Part
  | .claimAuthority _ | .releaseAuthority _ | .seizeAuthority _ | .setSeizeRight _ _ _ | .setWindow _ _ _ _ _ _ _ _ _ => [.access]
  | .routeAdd _ _ _ _ _ | .routeLevel _ _ _ _ | .routeRemove _ _ _ | .routeClear _ _ _ | .setDest _ _ _ _ | .setTrim _ _ _ => [.route]
  | .readLevels _ _ _ => [.mix]
  | .talkRequest _ _ _ | .talkRelease _ _ | .setFoldback _ _ _ _ _ _ _ _ _ | .talkGroup _ _ _ | .releaseGroup _ _ | .setGroup _ _ _
  | .leadExpiry _ | .limitExpiry _ | .holdExpiry _ => [.foldback]
  | .identify _ _ | .settleTimerExpiry _ | .debounceExpiry _ => [.mix, .ident]
  | .setProfile _ _ _ _ _ _ | .contactReadingChange _ _ _ _ _ => [.ident]
  | .fieldStart _ _ | .fieldStop _ _ | .fieldPark _ _ | .receiverLock _ | .receiverLockLoss _ | .stallExpiry _
  | .acquireExpiry _ | .retryExpiry _ | .fieldCall _ | .fieldWrite _ _ => [.field, .reference]
  | .setFieldPlan _ _ _ _ _ _ | .fieldRead _ | .activeReferenceSample _ _ => [.field]
  | .selectReference _ _ | .housePresence | .houseAbsence | .houseSettleExpiry | .fieldSettleExpiry
  | .switchDeadlineExpiry => [.reference]
  | .prstAssert _ => [.access, .route, .foldback]
  | .chipReset => [.nreset, .access, .route, .mix, .foldback, .ident, .field, .reference]
  | .nresetRelease => [.nreset, .ident, .reference]
  | .mixFrameEvent _ _ => [.route, .mix, .foldback, .ident, .field, .reference]
  | _ => []

/-- Whether a command may write a unit. -/
def touches (i : Instr) (x : Part) : Bool := (units i).contains x

/-- Every unit outside `w` stands in `t` as in `s`, and so do the waiting commands. -/
structure Kept (w : Part → Bool) (s t : State) : Prop where
  nreset : w .nreset = false → t.nresetLow = s.nresetLow
  access : w .access = false → t.access = s.access
  route : w .route = false → t.route = s.route
  mix : w .mix = false → t.mix = s.mix
  foldback : w .foldback = false → t.foldback = s.foldback
  ident : w .ident = false → t.ident = s.ident
  field : w .field = false → t.field = s.field
  reference : w .reference = false → t.reference = s.reference
  pending : t.pending = s.pending

theorem Kept.refl (w : Part → Bool) (s : State) : Kept w s s := by
  constructor <;> intros <;> rfl

theorem Kept.trans {w : Part → Bool} {s t u : State} (a : Kept w s t) (b : Kept w t u) : Kept w s u where
  nreset h := (b.nreset h).trans (a.nreset h)
  access h := (b.access h).trans (a.access h)
  route h := (b.route h).trans (a.route h)
  mix h := (b.mix h).trans (a.mix h)
  foldback h := (b.foldback h).trans (a.foldback h)
  ident h := (b.ident h).trans (a.ident h)
  field h := (b.field h).trans (a.field h)
  reference h := (b.reference h).trans (a.reference h)
  pending := b.pending.trans a.pending

/-- Changes to the ports alone. -/
theorem Kept.of_ports {w : Part → Bool} {s t : State} (h : t = { s with ports := t.ports }) : Kept w s t := by
  constructor <;> intros <;> rw [h]

theorem kept_nreset {w : Part → Bool} (s : State) (b : Bool) (h : w .nreset = true) :
    Kept w s { s with nresetLow := b } := by
  constructor <;> simp [h]

theorem kept_access {w : Part → Bool} (s : State) (a : AccessUnit) (h : w .access = true) :
    Kept w s { s with access := a } := by
  constructor <;> simp [h]

theorem kept_route {w : Part → Bool} (s : State) (r : RouteStore) (h : w .route = true) :
    Kept w s { s with route := r } := by
  constructor <;> simp [h]

theorem kept_mix {w : Part → Bool} (s : State) (m : MixEngine) (h : w .mix = true) : Kept w s { s with mix := m } := by
  constructor <;> simp [h]

theorem kept_foldback {w : Part → Bool} (s : State) (u : FoldbackUnit) (h : w .foldback = true) :
    Kept w s { s with foldback := u } := by
  constructor <;> simp [h]

theorem kept_ident {w : Part → Bool} (s : State) (u : IdentUnit) (h : w .ident = true) :
    Kept w s { s with ident := u } := by
  constructor <;> simp [h]

theorem kept_field {w : Part → Bool} (s : State) (u : FieldUnit) (h : w .field = true) :
    Kept w s { s with field := u } := by
  constructor <;> simp [h]

theorem kept_reference {w : Part → Bool} (s : State) (r : RefUnit) (h : w .reference = true) :
    Kept w s { s with reference := r } := by
  constructor <;> simp [h]

/-- Nothing but the waiting commands need stand where every unit may be written. -/
theorem kept_pending {w : Part → Bool} {s t : State} (h : ∀ x, w x = true) (pending : t.pending = s.pending) : Kept w s t := by
  constructor <;> simp [h, pending]

theorem kept_postAll {w : Part → Bool} (s : State) (xs : List Post) : Kept w s (s.postAll xs) :=
  .of_ports (postAll_eq s xs)

/-! ### Deposits alone -/

/-- What `t` changes in the ports of `s` are deposits, in some order (R17). -/
def Deposits (s t : State) : Prop := ∃ xs, t.ports = (s.postAll xs).ports

theorem Deposits.of_ports_eq {s t : State} (h : t.ports = s.ports) : Deposits s t := ⟨[], h⟩

theorem deposits_postAll (s : State) (xs : List Post) : Deposits s (s.postAll xs) := ⟨xs, rfl⟩

/-- Deposits depend on the ports and on NRESET alone. -/
theorem postAll_ports_congr {s t : State} (xs : List Post) (ports : s.ports = t.ports) (nreset : s.nresetLow = t.nresetLow) :
    (s.postAll xs).ports = (t.postAll xs).ports := by
  induction xs generalizing s t with
  | nil => exact ports
  | cons x xs ih =>
    rw [postAll_cons, postAll_cons]
    refine ih ?_ (by simpa using nreset)
    simp only [State.post, State.port, State.putPort, ← nreset, ← ports]
    split <;> [exact ports; rfl]

/-- Deposits that follow deposits. -/
theorem Deposits.trans {s t u : State} (a : Deposits s t) (b : Deposits t u) (nreset : t.nresetLow = s.nresetLow) :
    Deposits s u := by
  obtain ⟨xs, hx⟩ := a
  obtain ⟨ys, hy⟩ := b
  exact ⟨xs ++ ys, by rw [hy, postAll_append]; exact postAll_ports_congr ys hx (by simpa using nreset)⟩

/-- Deposits made on a state whose ports stand as before. -/
theorem Deposits.posted {s t : State} {xs : List Post} (ports : t.ports = s.ports := by rfl)
    (nreset : t.nresetLow = s.nresetLow := by rfl) :
    Deposits s (t.postAll xs) :=
  ⟨xs, postAll_ports_congr xs ports nreset⟩

theorem port_of_ports {s t : State} (h : t.ports = s.ports) (q : Port) : t.port q = s.port q := by
  simp only [State.port, h]

/-- No deposit reaches a port held in reset (R15). -/
theorem postAll_port_of_held (s : State) (xs : List Post) {q : Port} (h : (s.port q).held = true) :
    (s.postAll xs).port q = s.port q := by
  induction xs generalizing s with
  | nil => rfl
  | cons x xs ih =>
    have first : (s.post x).port q = s.port q := by
      rw [post_port]
      split <;> simp [PortRec.deposit, h]
    rw [postAll_cons, ih _ (by rw [first, h]), first]

/-- No deposit is made while NRESET is asserted (R21). -/
theorem postAll_of_nresetLow (s : State) (xs : List Post) (h : s.nresetLow = true) : s.postAll xs = s := by
  induction xs with
  | nil => rfl
  | cons x xs ih => rw [postAll_cons, show s.post x = s by simp [State.post, h], ih]

theorem postAll_port_queue_le (s : State) (xs : List Post) {q : Port}
    (h : (s.port q).queue.length ≤ Config.queueCapacity) :
    ((s.postAll xs).port q).queue.length ≤ Config.queueCapacity := by
  induction xs generalizing s with
  | nil => exact h
  | cons x xs ih =>
    rw [postAll_cons]
    refine ih _ ?_
    rw [post_port]
    split <;> [exact deposit_queue_le _ _ h; exact h]

/-- A deposit appends at most its own notice (R15). -/
theorem deposit_queue_append (r : PortRec) (n : Notice) :
    ∃ added, (r.deposit n).queue = r.queue ++ added ∧ added.Sublist [n] := by
  rcases deposit_cases r n with e | ⟨-, -, e⟩ | ⟨-, -, e⟩ <;> rw [e]
  · exact ⟨[], by simp, by simp⟩
  · exact ⟨[n], rfl, List.Sublist.refl _⟩
  · exact ⟨[], by simp, by simp⟩

/-- Deposits append to a queue some of the notices raised for its port, in their order (R17). -/
theorem postAll_port_queue (s : State) (xs : List Post) (q : Port) :
    ∃ added, ((s.postAll xs).port q).queue = (s.port q).queue ++ added ∧
      added.Sublist ((xs.filter fun x => decide (x.1 = q)).map (·.2)) := by
  induction xs generalizing s with
  | nil => exact ⟨[], by simp, by simp⟩
  | cons x xs ih =>
    obtain ⟨later, queue, sub⟩ := ih (s.post x)
    rw [postAll_cons, queue, post_port]
    by_cases mine : x.1 = q
    · rw [List.filter_cons_of_pos (by simpa using mine), List.map_cons]
      split
      · obtain ⟨now, e, one⟩ := deposit_queue_append (s.port q) x.2
        exact ⟨now ++ later, by rw [e, List.append_assoc], one.append sub⟩
      · exact ⟨later, rfl, sub.cons _⟩
    · rw [List.filter_cons_of_neg (by simpa using mine), if_neg (fun h => mine h.2.symm)]
      exact ⟨later, rfl, sub⟩

/-! ### What the owner of a request can do -/

/-- What the act of a request of port `p` can do to the state `s` on which its transaction has ended: it writes only the units
`w`, deposits notices at the other ports, keeps its own port's transaction, data output and hold, answers with an outcome, and
changes nothing where it refuses (R1, R7, R20). -/
structure Owner (p : Port) (w : Part → Bool) (s : State) (r : State × Answer) : Prop where
  kept : Kept w s r.1
  others : ∃ xs, ∀ q, q ≠ p → r.1.port q = (s.postAll xs).port q
  own_txn : (r.1.port p).txn = (s.port p).txn
  own_sdo : (r.1.port p).sdo = (s.port p).sdo
  own_held : (r.1.port p).held = (s.port p).held
  own_queue : (s.port p).queue.length ≤ Config.queueCapacity → (r.1.port p).queue.length ≤ Config.queueCapacity
  answered : r.2.outcome ≠ .none
  refused : r.2.outcome ∈ refusals → r.1 = s

section Owner
variable {p : Port} {w : Part → Bool} {s : State} {r : State × Answer}

/-- An act that touches the ports by deposits alone. -/
theorem Owner.of_deposits (kept : Kept w s r.1) (posts : Deposits s r.1) (answered : r.2.outcome ≠ .none)
    (refused : r.2.outcome ∈ refusals → r.1 = s) : Owner p w s r := by
  obtain ⟨xs, ports⟩ := posts
  have at_port (q : Port) : r.1.port q = (s.postAll xs).port q := port_of_ports ports q
  exact {
    kept, answered, refused
    others := ⟨xs, fun q _ => at_port q⟩
    own_txn := by rw [at_port, postAll_port_txn]
    own_sdo := by rw [at_port, postAll_port_sdo]
    own_held := by rw [at_port, postAll_port_held]
    own_queue := by rw [at_port]; exact postAll_port_queue_le s xs }

/-- An act that only answers. -/
theorem Owner.unchanged {a : Answer} (answered : a.outcome ≠ .none) : Owner p w s (s, a) :=
  .of_deposits (.refl w s) (.of_ports_eq rfl) answered fun _ => rfl

/-- An act that is no refusal. -/
theorem Owner.done {t : State} {a : Answer} (kept : Kept w s t) (posts : Deposits s t) (answered : a.outcome ≠ .none)
    (granted : a.outcome ∉ refusals) : Owner p w s (t, a) :=
  .of_deposits kept posts answered fun h => absurd h granted

theorem Owner.withAuthority {act : State → State × Answer} (h : Owner p w s (act s)) :
    Owner p w s (withAuthority p act s) := by
  unfold Machine.withAuthority
  split <;> [exact h; exact .unchanged (by simp [noAuthorityAnswer])]

/-- A window check that fails answers DENIED (R27). -/
theorem checkWrite_error {a : AccessUnit} {d : Dest} {x : Answer} (h : a.checkWrite p d = .error x) :
    x = denied denyNoWindow ∨ x = denied denyListenOnly := by
  unfold AccessUnit.checkWrite at h
  split at h <;> [skip; split at h] <;> simp_all

theorem checkRead_error {a : AccessUnit} {d : Dest} {x : Answer} (h : a.checkRead p d = .error x) :
    x = denied denyNoWindow := by
  unfold AccessUnit.checkRead at h
  split at h <;> simp_all

theorem Owner.deniedWrite {d : Dest} {x : Answer} (h : s.access.checkWrite p d = .error x) : Owner p w s (s, x) :=
  .unchanged (by rcases checkWrite_error h with rfl | rfl <;> simp [denied])

theorem Owner.deniedRead {d : Dest} {x : Answer} (h : s.access.checkRead p d = .error x) : Owner p w s (s, x) :=
  .unchanged (by rw [checkRead_error h]; simp [denied])

theorem Owner.outOfRange : Owner p w s (s, rangeAnswer) := .unchanged (by simp [rangeAnswer])

end Owner

/-- `OK` and `ACCEPTED` are outcomes and no refusals (R7). -/
theorem ok_granted (l : List Byte) : (okAnswer l).outcome ≠ .none ∧ (okAnswer l).outcome ∉ refusals := by
  simp [okAnswer, refusals]

end Sys2Proof.Machine

/-! SUPPORT. The owner of each request: what it may write and that it changes nothing where it refuses. -/

namespace Sys2Proof.Machine

section Requests
variable {p : Port} {w : Part → Bool} {s : State}

/-- An act that answers OK after writing units of `w` and making deposits. -/
theorem Owner.ok {t : State} (l : List Byte) (kept : Kept w s t) (posts : Deposits s t) : Owner p w s (t, okAnswer l) :=
  .done kept posts (ok_granted l).1 (ok_granted l).2

/-- An act that answers OK after writing units of `w` without any deposit. -/
theorem Owner.okSilent {t : State} (l : List Byte) (kept : Kept w s t) (ports : t.ports = s.ports) :
    Owner p w s (t, okAnswer l) :=
  .ok l kept (.of_ports_eq ports)

/-- An act that answers OK and changes nothing. -/
theorem Owner.okSame (l : List Byte) : Owner p w s (s, okAnswer l) := .unchanged (ok_granted l).1

/-! ### The port and the authority unit (01, 02) -/

/-- The act of FETCH_NOTICES (R18). -/
def fetchNotices (p : Port) (max : Byte) (s : State) : State × Answer :=
  (s.putPort p ((s.port p).drain (clampFetch max)),
    okAnswer (((s.port p).queue.take (clampFetch max)).flatMap Notice.bytes))

theorem execFetchNotices_eq (p : Port) (max : Byte) (s : State) :
    execFetchNotices p max s = takeRequest s p (.fetchNotices p max) (fetchNotices p max) := rfl

theorem fetchNotices_owner (max : Byte) : Owner p w s (fetchNotices p max s) where
  kept := .of_ports rfl
  others := ⟨[], fun q hq => by simp [fetchNotices, port_putPort, hq]⟩
  own_txn := by simp [fetchNotices, PortRec.drain]
  own_sdo := by simp [fetchNotices, PortRec.drain]
  own_held := by simp [fetchNotices, PortRec.drain]
  own_queue h := by simp [fetchNotices, PortRec.drain]; omega
  answered := (ok_granted _).1
  refused h := absurd h (ok_granted _).2

theorem claimAuthority_owner (h : w .access = true) : Owner p w s (claimAuthority p s) := by
  unfold claimAuthority
  split
  · exact .okSilent [] (kept_access s _ h) rfl
  · split
    · exact .okSame []
    · exact .unchanged nofun

theorem releaseAuthority_owner (h : w .access = true) : Owner p w s (releaseAuthority p s) := by
  unfold releaseAuthority
  split
  · exact .okSilent [] (kept_access s _ h) rfl
  · exact .unchanged nofun

theorem seizeAuthority_owner (h : w .access = true) : Owner p w s (seizeAuthority p s) := by
  unfold seizeAuthority
  split
  · exact .ok [] ((kept_access s _ h).trans (kept_postAll (s.setHolder (some p)) _)) (.posted)
  · exact .unchanged nofun

theorem setSeizeRight_owner (h : w .access = true) (port switch : Byte) : Owner p w s (setSeizeRight port switch s) := by
  unfold setSeizeRight
  split
  · exact .outOfRange
  · exact .okSilent [] (kept_access s _ h) rfl

theorem setWindow_owner (h : w .access = true) (port window enabled base mask priority listenOnly tag : Byte) :
    Owner p w s (setWindow port window enabled base mask priority listenOnly tag s) := by
  unfold setWindow
  split
  · exact .okSilent [] (kept_access s _ h) rfl
  · exact .outOfRange

theorem readWindow_owner (port window : Byte) : Owner p w s (readWindow port window s) := by
  unfold readWindow
  split
  · exact .okSame _
  · exact .outOfRange

/-! ### The route store and the meters (03, 04) -/

theorem settleList_kept (h : w .route = true) (d : Dest) (l : List Entry) : Kept w s (s.settleList d l) :=
  kept_route s _ h

theorem liveEntry_error {l : List Entry} {x : Source} {v : Window} {a : Answer} (h : liveEntry l x v = .error a) :
    a.outcome = .absent ∨ a.outcome = .protectedEntry := by
  unfold liveEntry at h
  split at h
  · simp_all; simp [← h]
  · split at h
    · simp_all; simp [← h]
    · split at h <;> simp_all [protectedAnswer]; simp [← h]

theorem Owner.notLive {l : List Entry} {x : Source} {v : Window} {a : Answer} (h : liveEntry l x v = .error a) :
    Owner p w s (s, a) :=
  .unchanged (by rcases liveEntry_error h with e | e <;> simp [e])

theorem routeAddChecked_owner (h : w .route = true) (v : Window) (d : Dest) (x : Source) (l : Level) (m : EntryMode) :
    Owner p w s (routeAddChecked p v d x l m s) := by
  unfold routeAddChecked
  dsimp only
  split
  · exact .unchanged nofun
  · split
    · split
      · exact .unchanged nofun
      · exact .okSilent _ (kept_route s _ h) rfl
    · split
      · exact .unchanged nofun
      · split
        · exact .unchanged nofun
        · exact .okSilent _ (kept_route s _ h) rfl

theorem routeAdd_owner (h : w .route = true) (dest source level mode : Byte) :
    Owner p w s (routeAdd p dest source level mode s) := by
  unfold routeAdd
  split
  · split
    · next e => exact .deniedWrite e
    · exact routeAddChecked_owner h _ _ _ _ _
  · exact .outOfRange

theorem routeLevel_owner (h : w .route = true) (dest source level : Byte) :
    Owner p w s (routeLevel p dest source level s) := by
  unfold routeLevel
  split
  · split
    · next e => exact .deniedWrite e
    · split
      · next e => exact .notLive e
      · exact .okSilent _ (kept_route s _ h) rfl
  · exact .outOfRange

theorem routeRemove_owner (h : w .route = true) (dest source : Byte) : Owner p w s (routeRemove p dest source s) := by
  unfold routeRemove
  split
  · split
    · next e => exact .deniedWrite e
    · split
      · next e => exact .notLive e
      · exact .okSilent _ (settleList_kept h _ _) rfl
  · exact .outOfRange

theorem routeClear_owner (h : w .route = true) (dest filter : Byte) : Owner p w s (routeClear p dest filter s) := by
  unfold routeClear
  split
  · split
    · next e => exact .deniedWrite e
    · exact .okSilent _ (settleList_kept h _ _) rfl
  · exact .outOfRange

theorem readRoutes_owner (dest : Byte) : Owner p w s (readRoutes p dest s) := by
  unfold readRoutes
  split
  · split
    · next e => exact .deniedRead e
    · exact .okSame _
  · exact .outOfRange

theorem setDest_owner (h : w .route = true) (dest master fade : Byte) : Owner p w s (setDest p dest master fade s) := by
  unfold setDest
  split
  · split
    · next e => exact .deniedWrite e
    · exact .okSilent _ (kept_route s _ h) rfl
  · exact .outOfRange

theorem setTrim_owner (h : w .route = true) (source trim : Byte) : Owner p w s (setTrim source trim s) := by
  unfold setTrim
  split
  · exact .okSilent _ (kept_route s _ h) rfl
  · exact .outOfRange

theorem readLevels_owner (h : w .mix = true) (first count : Byte) : Owner p w s (readLevels p first count s) := by
  unfold readLevels
  split
  · exact .outOfRange
  · exact .okSilent _ (kept_mix s _ h) rfl

/-! ### The foldback controller (05) -/

theorem setTalk_kept (h : w .foldback = true) (e : Earpiece) (x : TalkStep) : Kept w s (s.setTalk e x) :=
  (kept_foldback s _ h).trans (kept_postAll (s.putFb e x.1) x.2)

theorem setTalk_deposits (e : Earpiece) (x : TalkStep) : Deposits s (s.setTalk e x) :=
  .posted

/-- A TALK_REQUEST that is not answered OK or QUEUED is refused (R94, R97). -/
theorem request_answered (f : Foldback) (e : Earpiece) (t : TalkRec) :
    (f.request e t).2.outcome ≠ .none ∧
      ((f.request e t).2.outcome = .ok ∨ (f.request e t).2.outcome = .queued → (f.request e t).2.outcome ∉ refusals) := by
  refine ⟨?_, by rintro (h | h) <;> simp [h, refusals]⟩
  unfold Foldback.request
  split
  · exact nofun
  · split
    · simp [Foldback.talkResult, okAnswer]
    · split
      · simp [Foldback.talkResult, okAnswer]
      · split <;> exact nofun

theorem talkOn_owner (h : w .foldback = true) (e : Earpiece) (talker : Talker) (origin : Option Group) :
    Owner p w s (s.talkOn p e talker origin) := by
  unfold State.talkOn
  split
  · next denied => exact .deniedWrite denied
  · dsimp only
    split
    · next granted =>
      refine .done ((kept_foldback s _ h).trans (setTalk_kept h e _)) ?_ (request_answered _ _ _).1
        ((request_answered _ _ _).2 granted)
      exact .posted
    · exact .unchanged (request_answered _ _ _).1

theorem talkRequest_owner (h : w .foldback = true) (earpiece talker : Byte) :
    Owner p w s (talkRequest p earpiece talker s) := by
  unfold talkRequest
  split
  · exact talkOn_owner h _ _ _
  · exact .outOfRange

theorem releaseOn_owner (h : w .foldback = true) (e : Earpiece) : Owner p w s (s.releaseOn p e) := by
  unfold State.releaseOn
  split
  · next denied => exact .deniedWrite denied
  · split
    · exact .unchanged nofun
    · exact .ok _ (setTalk_kept h e _) (setTalk_deposits e _)

theorem talkRelease_owner (h : w .foldback = true) (earpiece : Byte) : Owner p w s (talkRelease p earpiece s) := by
  unfold talkRelease
  split
  · exact releaseOn_owner h _
  · exact .outOfRange

theorem setFoldback_owner (h : w .foldback = true) (earpiece bed nominal duck interrupt lead hold limit : Byte) :
    Owner p w s (setFoldback p earpiece bed nominal duck interrupt lead hold limit s) := by
  unfold setFoldback
  split
  · split
    · next e => exact .deniedWrite e
    · exact .okSilent _ (kept_foldback s _ h) rfl
  · exact .outOfRange

theorem readFoldback_owner (earpiece : Byte) : Owner p w s (readFoldback p earpiece s) := by
  unfold readFoldback
  split
  · exact .outOfRange
  · split
    · next e => exact .deniedRead e
    · exact .okSame _

/-- A talk act of one member keeps NRESET and makes deposits alone at the ports; so does a visit of several. -/
theorem visit_kept {act : State → Earpiece → State × Answer} (each : ∀ u e, Kept w u (act u e).1 ∧ Deposits u (act u e).1)
    (nreset : w .nreset = false) (l : List Earpiece) (u : State) :
    Kept w u (visit act l u).1 ∧ Deposits u (visit act l u).1 := by
  induction l generalizing u with
  | nil => exact ⟨.refl w u, .of_ports_eq rfl⟩
  | cons e l ih =>
    obtain ⟨kept, posts⟩ := each u e
    obtain ⟨kept', posts'⟩ := ih (act u e).1
    exact ⟨kept.trans kept', posts.trans posts' (kept.nreset nreset)⟩

theorem visitAll_owner {act : State → Earpiece → State × Answer}
    (each : ∀ u e, Kept w u (act u e).1 ∧ Deposits u (act u e).1) (nreset : w .nreset = false) (l : List Earpiece) :
    Owner p w s (visitAll act l s) :=
  .ok _ (visit_kept each nreset l s).1 (visit_kept each nreset l s).2

theorem talkOn_deposits (u : State) (e : Earpiece) (talker : Talker) (origin : Option Group) :
    Deposits u (u.talkOn p e talker origin).1 := by
  unfold State.talkOn
  split
  · exact .of_ports_eq rfl
  · dsimp only
    split
    · exact .posted
    · exact .of_ports_eq rfl

theorem releaseOn_deposits (u : State) (e : Earpiece) : Deposits u (u.releaseOn p e).1 := by
  unfold State.releaseOn
  split
  · exact .of_ports_eq rfl
  · split
    · exact .of_ports_eq rfl
    · exact setTalk_deposits e _

theorem talkGroup_owner (h : w .foldback = true) (nreset : w .nreset = false) (group talker : Byte) :
    Owner p w s (talkGroup p group talker s) := by
  unfold talkGroup
  split
  · exact visitAll_owner (fun u e => ⟨(talkOn_owner h e _ _).kept, talkOn_deposits u e _ _⟩) nreset _
  · exact .outOfRange

theorem releaseGroup_owner (h : w .foldback = true) (nreset : w .nreset = false) (group : Byte) :
    Owner p w s (releaseGroup p group s) := by
  unfold releaseGroup
  split
  · exact visitAll_owner (fun u e => ⟨(releaseOn_owner h e).kept, releaseOn_deposits u e⟩) nreset _
  · exact .outOfRange

theorem setGroup_owner (h : w .foldback = true) (group : Byte) (members : BitVec 16) :
    Owner p w s (setGroup group members s) := by
  unfold setGroup
  split
  · exact .okSilent _ (kept_foldback s _ h) rfl
  · exact .outOfRange

/-! ### The identification unit (06) -/

theorem startProbe_kept (mix : w .mix = true) (ident : w .ident = true) (e : Earpiece) : Kept w s (s.startProbe e) := by
  rw [startProbe_eq]
  constructor <;> simp [mix, ident]

theorem startProbe_ports (s : State) (e : Earpiece) : (s.startProbe e).ports = s.ports := by
  rw [startProbe_eq]

theorem identify_owner (mix : w .mix = true) (ident : w .ident = true) (earpiece : Byte) :
    Owner p w s (identify p earpiece s) := by
  unfold identify
  split
  · exact .outOfRange
  · split
    · next e => exact .deniedWrite e
    · split
      · exact .unchanged nofun
      · exact .done (startProbe_kept mix ident _) (.of_ports_eq (startProbe_ports s _)) nofun (by simp [refusals])

theorem readAccessory_owner (earpiece : Byte) : Owner p w s (readAccessory p earpiece s) := by
  unfold readAccessory
  split
  · exact .outOfRange
  · split
    · next e => exact .deniedRead e
    · exact .okSame _

theorem setProfile_owner (h : w .ident = true) (index valid : Byte) (matchId : BitVec 16) (ceiling ear : Byte) :
    Owner p w s (setProfile index valid matchId ceiling ear s) := by
  unfold setProfile
  split
  · exact .ok _ ((kept_ident s _ h).trans (kept_postAll _ _)) (.posted)
  · exact .outOfRange

/-! ### The field lines and the reference unit (07, 08) -/

theorem setReference_kept (h : w .reference = true) (x : RefStep) : Kept w s (s.setReference x) :=
  (kept_reference s x.1 h).trans (kept_postAll _ _)

theorem setReference_deposits (s : State) (x : RefStep) : Deposits s (s.setReference x) :=
  .posted

theorem reportTracked_deposits (s : State) (k : Line) (a b : LineState) : Deposits s (s.reportTracked k a b) := by
  unfold State.reportTracked
  split
  · split
    · exact .of_ports_eq rfl
    · split
      · exact setReference_deposits s _
      · exact .of_ports_eq rfl
  · exact .of_ports_eq rfl

theorem changeLine_kept (field : w .field = true) (reference : w .reference = true) (k : Line) (l : LineRec)
    (c : LineCause) : Kept w s (s.changeLine k l c) := by
  rw [changeLine_eq]
  constructor <;> simp [field, reference]

theorem changeLine_deposits (s : State) (k : Line) (l : LineRec) (c : LineCause) : Deposits s (s.changeLine k l c) := by
  exact (Deposits.posted (t := s.putLine k { l with lastCause := c })).trans (reportTracked_deposits _ k _ _) (by simp)

theorem fieldStart_owner (field : w .field = true) (reference : w .reference = true) (line : Byte) :
    Owner p w s (fieldStart p line s) := by
  unfold fieldStart
  split
  · exact .outOfRange
  · split
    · next e => exact .deniedWrite e
    · split
      · exact .done (changeLine_kept field reference _ _ _) (changeLine_deposits _ _ _ _) nofun (by simp [refusals])
      · exact .unchanged nofun

theorem fieldStop_owner (field : w .field = true) (reference : w .reference = true) (line : Byte) :
    Owner p w s (fieldStop p line s) := by
  unfold fieldStop
  split
  · exact .outOfRange
  · split
    · next e => exact .deniedWrite e
    · split
      · exact .unchanged nofun
      · split
        · exact .okSame _
        · exact .ok _ (changeLine_kept field reference _ _ _) (changeLine_deposits _ _ _ _)

theorem fieldPark_owner (field : w .field = true) (reference : w .reference = true) (line : Byte) :
    Owner p w s (fieldPark p line s) := by
  unfold fieldPark
  split
  · exact .outOfRange
  · split
    · next e => exact .deniedWrite e
    · split
      · exact .unchanged nofun
      · split
        · exact .unchanged nofun
        · split
          · exact .okSame _
          · exact .ok _ (changeLine_kept field reference _ _ _) (changeLine_deposits _ _ _ _)

theorem readField_owner (line : Byte) : Owner p w s (readField p line s) := by
  unfold readField
  split
  · exact .outOfRange
  · split
    · next e => exact .deniedRead e
    · exact .okSame _

theorem setFieldPlan_owner (h : w .field = true) (line depth quiet autoWake acquire : Byte) :
    Owner p w s (setFieldPlan line depth quiet autoWake acquire s) := by
  unfold setFieldPlan
  split
  · exact .outOfRange
  · dsimp only
    split
    · exact .unchanged nofun
    · split
      · exact .unchanged nofun
      · exact .okSilent _ (kept_field s _ h) rfl

/-- SELECT_REFERENCE, once it is judged, is answered OK or ACCEPTED (R160). -/
theorem judge_answered (r : RefUnit) (x : RefSource) :
    (r.judge x).2.outcome ≠ .none ∧ (r.judge x).2.outcome ∉ refusals := by
  unfold RefUnit.judge
  split
  · exact ok_granted _
  · split
    · exact ok_granted _
    · simp [refusals]

theorem selectReference_owner (h : w .reference = true) (choice : Byte) : Owner p w s (selectReference choice s) := by
  unfold selectReference
  split
  · exact .outOfRange
  · split
    · exact .unchanged nofun
    · exact .done (setReference_kept h _) (setReference_deposits s _) (judge_answered _ _).1 (judge_answered _ _).2

theorem readReference_owner : Owner p w s (readReference s) := .okSame _

end Requests

/-! ### Every request is taken for its owner -/

/-- Every request command is a SEL rise at which its owner acts (R4). -/
theorem request_has_owner {i : Instr} {p : Port} (asks : askingPort i = some p) :
    ∃ act, (∀ s, exec i s = takeRequest s p i act) ∧ ∀ s, Owner p (touches i) s (act s) := by
  cases i with
  | nop => obtain rfl := Option.some.inj asks; exact ⟨_, fun _ => rfl, fun _ => .okSame _⟩
  | queryPart => obtain rfl := Option.some.inj asks; exact ⟨_, fun _ => rfl, fun _ => .okSame _⟩
  | fetchNotices => obtain rfl := Option.some.inj asks; exact ⟨_, execFetchNotices_eq _ _, fun _ => fetchNotices_owner _⟩
  | claimAuthority => obtain rfl := Option.some.inj asks; exact ⟨_, fun _ => rfl, fun _ => claimAuthority_owner rfl⟩
  | releaseAuthority => obtain rfl := Option.some.inj asks; exact ⟨_, fun _ => rfl, fun _ => releaseAuthority_owner rfl⟩
  | seizeAuthority => obtain rfl := Option.some.inj asks; exact ⟨_, fun _ => rfl, fun _ => seizeAuthority_owner rfl⟩
  | setSeizeRight => obtain rfl := Option.some.inj asks; exact ⟨_, fun _ => rfl, fun _ => .withAuthority (setSeizeRight_owner rfl _ _)⟩
  | setWindow => obtain rfl := Option.some.inj asks; exact ⟨_, fun _ => rfl, fun _ => .withAuthority (setWindow_owner rfl _ _ _ _ _ _ _ _)⟩
  | readWindow => obtain rfl := Option.some.inj asks; exact ⟨_, fun _ => rfl, fun _ => readWindow_owner _ _⟩
  | routeAdd => obtain rfl := Option.some.inj asks; exact ⟨_, fun _ => rfl, fun _ => routeAdd_owner rfl _ _ _ _⟩
  | routeLevel => obtain rfl := Option.some.inj asks; exact ⟨_, fun _ => rfl, fun _ => routeLevel_owner rfl _ _ _⟩
  | routeRemove => obtain rfl := Option.some.inj asks; exact ⟨_, fun _ => rfl, fun _ => routeRemove_owner rfl _ _⟩
  | routeClear => obtain rfl := Option.some.inj asks; exact ⟨_, fun _ => rfl, fun _ => routeClear_owner rfl _ _⟩
  | readRoutes => obtain rfl := Option.some.inj asks; exact ⟨_, fun _ => rfl, fun _ => readRoutes_owner _⟩
  | setDest => obtain rfl := Option.some.inj asks; exact ⟨_, fun _ => rfl, fun _ => setDest_owner rfl _ _ _⟩
  | setTrim => obtain rfl := Option.some.inj asks; exact ⟨_, fun _ => rfl, fun _ => .withAuthority (setTrim_owner rfl _ _)⟩
  | readLevels => obtain rfl := Option.some.inj asks; exact ⟨_, fun _ => rfl, fun _ => readLevels_owner rfl _ _⟩
  | talkRequest => obtain rfl := Option.some.inj asks; exact ⟨_, fun _ => rfl, fun _ => talkRequest_owner rfl _ _⟩
  | talkRelease => obtain rfl := Option.some.inj asks; exact ⟨_, fun _ => rfl, fun _ => talkRelease_owner rfl _⟩
  | setFoldback => obtain rfl := Option.some.inj asks; exact ⟨_, fun _ => rfl, fun _ => setFoldback_owner rfl _ _ _ _ _ _ _ _⟩
  | readFoldback => obtain rfl := Option.some.inj asks; exact ⟨_, fun _ => rfl, fun _ => readFoldback_owner _⟩
  | talkGroup => obtain rfl := Option.some.inj asks; exact ⟨_, fun _ => rfl, fun _ => talkGroup_owner rfl rfl _ _⟩
  | releaseGroup => obtain rfl := Option.some.inj asks; exact ⟨_, fun _ => rfl, fun _ => releaseGroup_owner rfl rfl _⟩
  | setGroup => obtain rfl := Option.some.inj asks; exact ⟨_, fun _ => rfl, fun _ => .withAuthority (setGroup_owner rfl _ _)⟩
  | identify => obtain rfl := Option.some.inj asks; exact ⟨_, fun _ => rfl, fun _ => identify_owner rfl rfl _⟩
  | readAccessory => obtain rfl := Option.some.inj asks; exact ⟨_, fun _ => rfl, fun _ => readAccessory_owner _⟩
  | setProfile => obtain rfl := Option.some.inj asks; exact ⟨_, fun _ => rfl, fun _ => .withAuthority (setProfile_owner rfl _ _ _ _ _)⟩
  | fieldStart => obtain rfl := Option.some.inj asks; exact ⟨_, fun _ => rfl, fun _ => fieldStart_owner rfl rfl _⟩
  | fieldStop => obtain rfl := Option.some.inj asks; exact ⟨_, fun _ => rfl, fun _ => fieldStop_owner rfl rfl _⟩
  | fieldPark => obtain rfl := Option.some.inj asks; exact ⟨_, fun _ => rfl, fun _ => fieldPark_owner rfl rfl _⟩
  | readField => obtain rfl := Option.some.inj asks; exact ⟨_, fun _ => rfl, fun _ => readField_owner _⟩
  | setFieldPlan => obtain rfl := Option.some.inj asks; exact ⟨_, fun _ => rfl, fun _ => .withAuthority (setFieldPlan_owner rfl _ _ _ _ _)⟩
  | selectReference => obtain rfl := Option.some.inj asks; exact ⟨_, fun _ => rfl, fun _ => .withAuthority (selectReference_owner rfl _)⟩
  | readReference => obtain rfl := Option.some.inj asks; exact ⟨_, fun _ => rfl, fun _ => readReference_owner⟩
  | _ => exact nomatch asks

end Sys2Proof.Machine

/-! SUPPORT. Every command answers a next state that keeps the units the command may not write; and the statements that follow for
the part as a whole and for the control ports (O2, O14, O15, O54). -/

namespace Sys2Proof.Machine

/-! ### Events that reach the ports by deposits alone -/

/-- The outcome is a next state that keeps the units outside `w` and changes the ports by deposits alone. -/
def Event (w : Part → Bool) (s : State) (o : Host.Outcome State Fault Refusal) : Prop :=
  ∃ t, o = .next t ∧ Kept w s t ∧ Deposits s t

section Events
variable {w : Part → Bool} {s : State}

theorem Event.idle : Event w s (.next s) := ⟨s, rfl, .refl w s, .of_ports_eq rfl⟩

theorem Event.moves {t : State} (kept : Kept w s t) (posts : Deposits s t) : Event w s (.next t) := ⟨t, rfl, kept, posts⟩

/-- An event without a deposit. -/
theorem Event.silent {t : State} (kept : Kept w s t) (ports : t.ports = s.ports := by rfl) : Event w s (.next t) :=
  .moves kept (.of_ports_eq ports)

theorem Event.setReference (h : w .reference = true) (x : RefStep) : Event w s (.next (s.setReference x)) :=
  .moves (setReference_kept h x) (setReference_deposits s x)

theorem Event.changeLine (field : w .field = true) (reference : w .reference = true) (k : Line) (l : LineRec)
    (c : LineCause) : Event w s (.next (s.changeLine k l c)) :=
  .moves (changeLine_kept field reference k l c) (changeLine_deposits s k l c)

theorem Event.startProbe (mix : w .mix = true) (ident : w .ident = true) (e : Earpiece) :
    Event w s (.next (s.startProbe e)) :=
  .silent (startProbe_kept mix ident e) (startProbe_ports s e)

/-- A frame steps gain words and timers, hands the outputs on, and then deposits its CLIP notices (R73). -/
theorem frame_eq (s : State) (mics programmes : List Sample) :
    s.frame mics programmes = (s.stepped.handOn (s.stepped.outputs mics programmes)).postAll
      (s.stepped.clipPosts (s.stepped.outputs mics programmes)) := rfl

@[simp] theorem stepped_nresetLow (s : State) : s.stepped.nresetLow = s.nresetLow := by
  simp only [State.stepped, State.frameGains, State.frameTimers]
@[simp] theorem stepped_ports (s : State) : s.stepped.ports = s.ports := by
  simp only [State.stepped, State.frameGains, State.frameTimers]
@[simp] theorem stepped_access (s : State) : s.stepped.access = s.access := by
  simp only [State.stepped, State.frameGains, State.frameTimers]
@[simp] theorem stepped_pending (s : State) : s.stepped.pending = s.pending := by
  simp only [State.stepped, State.frameGains, State.frameTimers]
@[simp] theorem handOn_nresetLow (s : State) (o : Vector Output 48) : (s.handOn o).nresetLow = s.nresetLow := by
  simp only [State.handOn]
@[simp] theorem handOn_ports (s : State) (o : Vector Output 48) : (s.handOn o).ports = s.ports := by
  simp only [State.handOn]
@[simp] theorem handOn_access (s : State) (o : Vector Output 48) : (s.handOn o).access = s.access := by
  simp only [State.handOn]
@[simp] theorem handOn_route (s : State) (o : Vector Output 48) : (s.handOn o).route = s.route := by
  simp only [State.handOn]
@[simp] theorem handOn_foldback (s : State) (o : Vector Output 48) : (s.handOn o).foldback = s.foldback := by
  simp only [State.handOn]
@[simp] theorem handOn_ident (s : State) (o : Vector Output 48) : (s.handOn o).ident = s.ident := by
  simp only [State.handOn]
@[simp] theorem handOn_reference (s : State) (o : Vector Output 48) : (s.handOn o).reference = s.reference := by
  simp only [State.handOn]
@[simp] theorem handOn_pending (s : State) (o : Vector Output 48) : (s.handOn o).pending = s.pending := by
  simp only [State.handOn]

theorem frame_event (mics programmes : List Sample) :
    Event (touches (.mixFrameEvent mics programmes)) s (execMixFrameEvent mics programmes s) := by
  unfold execMixFrameEvent
  rw [frame_eq]
  refine .moves ?_ (.posted (by simp) (by simp))
  have written {x : Part} {P : Prop} (h : touches (.mixFrameEvent mics programmes) x = true)
      (h' : touches (.mixFrameEvent mics programmes) x = false) : P := by simp [h] at h'
  exact {
    nreset := fun _ => by simp
    access := fun _ => by simp
    route := written rfl
    mix := written rfl
    foldback := written rfl
    ident := written rfl
    field := written rfl
    reference := written rfl
    pending := by simp }

theorem leadExpiry_event (h : w .foldback = true) (e : Earpiece) : Event w s (execLeadExpiry e s) := by
  unfold execLeadExpiry
  dsimp only
  split <;> [exact .silent (kept_foldback s _ h); exact .idle]

theorem limitExpiry_event (h : w .foldback = true) (e : Earpiece) : Event w s (execLimitExpiry e s) := by
  unfold execLimitExpiry
  dsimp only
  split
  · split <;> [exact .moves (setTalk_kept h e _) (setTalk_deposits e _); exact .idle]
  · exact .idle

theorem holdExpiry_event (h : w .foldback = true) (e : Earpiece) : Event w s (execHoldExpiry e s) := by
  unfold execHoldExpiry
  dsimp only
  split <;> [exact .silent (kept_foldback s _ h); exact .idle]

theorem completeProbe_event (mix : w .mix = true) (ident : w .ident = true) (e : Earpiece) :
    Event w s (.next (s.completeProbe e)) := by
  unfold State.completeProbe
  dsimp only
  split
  · exact .moves (((kept_ident s _ ident).trans (kept_mix _ _ mix)).trans (kept_postAll _ _)) .posted
  · exact .moves ((kept_ident s _ ident).trans (kept_postAll _ _)) .posted

theorem settleTimerExpiry_event (mix : w .mix = true) (ident : w .ident = true) (e : Earpiece) :
    Event w s (execSettleTimerExpiry e s) := by
  unfold execSettleTimerExpiry
  dsimp only
  split
  · split <;> [exact .silent (kept_ident s _ ident); exact completeProbe_event mix ident e]
  · exact .idle

theorem debounceExpiry_event (mix : w .mix = true) (ident : w .ident = true) (e : Earpiece) :
    Event w s (execDebounceExpiry e s) := by
  unfold execDebounceExpiry
  split <;> [exact .startProbe mix ident e; exact .idle]

section Lines
variable (field : w .field = true) (reference : w .reference = true) (k : Line)
include field reference

theorem receiverLock_event : Event w s (execReceiverLock k s) := by
  unfold execReceiverLock
  split <;> [exact .changeLine field reference k _ _; exact .idle]

theorem receiverLockLoss_event : Event w s (execReceiverLockLoss k s) := by
  unfold execReceiverLockLoss
  split <;> [exact .changeLine field reference k _ _; exact .idle]

theorem stallExpiry_event : Event w s (execStallExpiry k s) := by
  unfold execStallExpiry
  split <;> [exact .changeLine field reference k _ _; exact .idle]

theorem acquireExpiry_event : Event w s (execAcquireExpiry k s) := by
  unfold execAcquireExpiry
  split <;> [exact .changeLine field reference k _ _; exact .idle]

theorem retryExpiry_event : Event w s (execRetryExpiry k s) := by
  unfold execRetryExpiry
  split <;> [exact .changeLine field reference k _ _; exact .idle]

theorem fieldCall_event : Event w s (execFieldCall k s) := by
  unfold execFieldCall
  split
  · dsimp only
    split
    · exact .moves ((kept_postAll s _).trans (changeLine_kept field reference k _ _))
        ((deposits_postAll s _).trans (changeLine_deposits _ k _ _) (postAll_nresetLow s _))
    · exact .moves (kept_postAll s _) (deposits_postAll s _)
  · exact .idle

theorem fieldWrite_event (x : Sample) : Event w s (execFieldWrite k x s) := by
  unfold execFieldWrite
  dsimp only
  split
  · exact .idle
  · split
    · split <;> [exact .changeLine field reference k _ _; exact .silent (kept_field s _ field)]
    · exact .silent (kept_field s _ field)
    · exact .idle

end Lines

theorem fieldRead_event (h : w .field = true) (k : Line) : Event w s (execFieldRead k s) := by
  unfold execFieldRead
  dsimp only
  split
  · exact .idle
  · split <;> [exact .silent (kept_field s _ h); exact .idle]

theorem activeReferenceSample_event (h : w .field = true) (k : Line) (x : Sample) :
    Event w s (execActiveReferenceSample k x s) := by
  unfold execActiveReferenceSample
  split <;> [exact .silent (kept_field s _ h); exact .idle]

theorem houseSettleExpiry_event (h : w .reference = true) : Event w s (execHouseSettleExpiry s) := by
  unfold execHouseSettleExpiry
  dsimp only
  split <;> [exact .setReference h _; exact .idle]

theorem fieldSettleExpiry_event (h : w .reference = true) : Event w s (execFieldSettleExpiry s) := by
  unfold execFieldSettleExpiry
  dsimp only
  split <;> [exact .setReference h _; exact .idle]

theorem switchDeadlineExpiry_event (h : w .reference = true) : Event w s (execSwitchDeadlineExpiry s) := by
  unfold execSwitchDeadlineExpiry
  dsimp only
  split <;> [exact .setReference h _; exact .idle]

end Events

/-- The commands that act on a port itself or on the reset pins. -/
def onPins : Instr → Bool
  | .transactionBegin _ | .framing _ | .unknown _ | .clockPeriod _ _ | .prstAssert _ | .prstRelease _ | .chipReset
  | .nresetRelease => true
  | _ => false

/-- A command is a request, acts on the pins or is an event inside the part. -/
theorem request_or_pins_or_event (i : Instr) (s : State) :
    (∃ p, askingPort i = some p) ∨ onPins i = true ∨ Event (touches i) s (exec i s) := by
  cases i
  case mixFrameEvent => exact .inr (.inr (frame_event _ _))
  case leadExpiry => exact .inr (.inr (leadExpiry_event rfl _))
  case limitExpiry => exact .inr (.inr (limitExpiry_event rfl _))
  case holdExpiry => exact .inr (.inr (holdExpiry_event rfl _))
  case settleTimerExpiry => exact .inr (.inr (settleTimerExpiry_event rfl rfl _))
  case contactReadingChange => exact .inr (.inr (.silent (kept_ident s _ rfl)))
  case debounceExpiry => exact .inr (.inr (debounceExpiry_event rfl rfl _))
  case receiverLock => exact .inr (.inr (receiverLock_event rfl rfl _))
  case receiverLockLoss => exact .inr (.inr (receiverLockLoss_event rfl rfl _))
  case stallExpiry => exact .inr (.inr (stallExpiry_event rfl rfl _))
  case acquireExpiry => exact .inr (.inr (acquireExpiry_event rfl rfl _))
  case retryExpiry => exact .inr (.inr (retryExpiry_event rfl rfl _))
  case fieldCall => exact .inr (.inr (fieldCall_event rfl rfl _))
  case fieldWrite => exact .inr (.inr (fieldWrite_event rfl rfl _ _))
  case fieldRead => exact .inr (.inr (fieldRead_event rfl _))
  case activeReferenceSample => exact .inr (.inr (activeReferenceSample_event rfl _ _))
  case housePresence => exact .inr (.inr (.silent (kept_reference s _ rfl)))
  case houseAbsence => exact .inr (.inr (.setReference rfl _))
  case houseSettleExpiry => exact .inr (.inr (houseSettleExpiry_event rfl))
  case fieldSettleExpiry => exact .inr (.inr (fieldSettleExpiry_event rfl))
  case switchDeadlineExpiry => exact .inr (.inr (switchDeadlineExpiry_event rfl))
  all_goals first | exact .inl ⟨_, rfl⟩ | exact .inr (.inl rfl)

/-! ### Every command answers a next state -/

theorem endTransaction_kept {w : Part → Bool} (s : State) (p : Port) : Kept w s (s.endTransaction p) := .of_ports rfl

theorem reply_kept {w : Part → Bool} (s : State) (p : Port) (tag : Byte) (a : Answer) : Kept w s (s.reply p tag a) :=
  .of_ports rfl

/-- The act of a taken request between the end of its transaction and its reply, with everything else it can do (R4). -/
theorem request_cases {i : Instr} {p : Port} {s t : State} (asks : askingPort i = some p) (h : exec i s = .next t) :
    (s.spelled p i = none ∧ t = s) ∨
      ∃ tag r, s.spelled p i = some tag ∧ Owner p (touches i) (s.endTransaction p) r ∧ t = r.1.reply p tag r.2 := by
  obtain ⟨act, taken, owner⟩ := request_has_owner asks
  rw [taken] at h
  rcases takeRequest_cases h with ⟨other, rfl⟩ | ⟨tag, spelled, rfl⟩
  · exact .inl ⟨other, rfl⟩
  · exact .inr ⟨tag, _, spelled, owner _, rfl⟩

theorem request_completes {i : Instr} {p : Port} (asks : askingPort i = some p) (s : State) : ∃ t, exec i s = .next t := by
  obtain ⟨act, taken, -⟩ := request_has_owner asks
  rw [taken]
  unfold takeRequest
  split <;> exact ⟨_, rfl⟩

theorem withdrawPort_kept {w : Part → Bool} (h : w .foldback = true) (s : State) (p : Port) : Kept w s (s.withdrawPort p) := by
  rw [withdrawPort_eq]
  constructor <;> simp [h]

/-- A command on the pins answers a next state that keeps the units it may not write. -/
theorem pins_completes {i : Instr} (pins : onPins i = true) (s : State) :
    ∃ t, exec i s = .next t ∧ Kept (touches i) s t := by
  cases i <;> cases pins
  case transactionBegin p =>
    simp only [exec, execTransactionBegin]
    split <;> [exact ⟨s, rfl, .refl _ s⟩; exact ⟨_, rfl, .of_ports rfl⟩]
  case framing p =>
    simp only [exec, execFraming]
    split <;> [exact ⟨_, rfl, .of_ports rfl⟩; exact ⟨s, rfl, .refl _ s⟩]
  case unknown p =>
    simp only [exec, execUnknown]
    split <;> [exact ⟨_, rfl, .of_ports rfl⟩; exact ⟨s, rfl, .refl _ s⟩]
  case clockPeriod p sdi =>
    simp only [exec, execClockPeriod]
    split <;> [exact ⟨s, rfl, .refl _ s⟩; exact ⟨_, rfl, .of_ports rfl⟩]
  case prstRelease p => exact ⟨_, rfl, .of_ports rfl⟩
  case prstAssert p =>
    simp only [exec, execPrstAssert]
    split
    · exact ⟨s, rfl, .refl _ s⟩
    · refine ⟨_, rfl, Kept.trans ?_ (withdrawPort_kept rfl _ p)⟩
      exact Kept.trans (t := s.putPort p PortRec.assertReset) (.of_ports rfl)
        ((kept_access _ (s.access.portReset p) rfl).trans (kept_route _ (s.route.portReset p) rfl))
  case chipReset => exact ⟨_, rfl, kept_pending (fun x => by cases x <;> rfl) rfl⟩
  case nresetRelease =>
    refine ⟨_, rfl, ?_⟩
    split
    · exact ((kept_nreset s false rfl).trans (kept_ident _ _ rfl)).trans (kept_reference _ _ rfl)
    · exact .refl _ s

/-- Every command answers a next state that keeps the waiting commands and the units the command may not write. -/
theorem exec_completes (i : Instr) (s : State) : ∃ t, exec i s = .next t ∧ Kept (touches i) s t := by
  rcases request_or_pins_or_event i s with ⟨p, asks⟩ | pins | ⟨t, done, kept, -⟩
  · obtain ⟨t, done⟩ := request_completes asks s
    refine ⟨t, done, ?_⟩
    rcases request_cases asks done with ⟨-, rfl⟩ | ⟨tag, r, -, owner, rfl⟩
    · exact .refl _ _
    · exact ((endTransaction_kept s p).trans owner.kept).trans (reply_kept _ p tag _)
  · exact pins_completes pins s
  · exact ⟨t, done, kept⟩

theorem exec_kept {i : Instr} {s t : State} (h : exec i s = .next t) : Kept (touches i) s t := by
  obtain ⟨u, done, kept⟩ := exec_completes i s
  rw [h] at done
  cases done
  exact kept

/-- Settles O2: `exec_completes`, by the kinds of commands. -/
theorem everyCommandCompletes : Obligations.EveryCommandCompletes := by
  intro c s
  obtain ⟨t, done, kept⟩ := exec_completes c s
  exact ⟨t, done, kept.pending⟩

/-! ### The ports keep apart -/

/-- Settles O14: a taken request ends its own transaction and is answered there; other ports see deposits alone. -/
theorem portsKeepApart : Obligations.PortsKeepApart := by
  intro i p s t asks done
  rcases request_cases asks done with ⟨other, rfl⟩ | ⟨tag, r, spelled, owner, rfl⟩
  · exact ⟨fun q _ => ⟨rfl, rfl, rfl, rfl, [], by simp⟩, rfl, fun _ => rfl, fun tag h => by simp [other] at h⟩
  · refine ⟨fun q hq => ?_, by simp [owner.own_held], fun h => by simp [spelled] at h, fun tag' h => ?_⟩
    · obtain ⟨xs, others⟩ := owner.others
      obtain ⟨added, queue, -⟩ := postAll_port_queue (s.endTransaction p) xs q
      rw [port_reply_ne _ _ _ hq, others q hq, postAll_port_txn, postAll_port_sdo, postAll_port_slot, postAll_port_held,
        queue, port_endTransaction_ne s hq]
      exact ⟨rfl, rfl, rfl, rfl, added, rfl⟩
    · obtain rfl : tag = tag' := Option.some.inj (spelled.symm.trans h)
      exact ⟨by simp [owner.own_txn], by simp [owner.own_sdo], r.2, owner.answered, by simp⟩

/-- Settles O15: an owner that refuses leaves the state as it took it. -/
theorem refusalsChangeNothing : Obligations.RefusalsChangeNothing := by
  intro i p s t tag r asks spelled done slot refusal
  rcases request_cases asks done with ⟨other, -⟩ | ⟨tag', a, spelled', owner, rfl⟩
  · rw [spelled] at other; cases other
  · obtain rfl : tag = tag' := Option.some.inj (spelled.symm.trans spelled')
    rw [port_reply_same] at slot
    obtain rfl := Option.some.inj slot
    rw [owner.refused refusal]

end Sys2Proof.Machine

/-! SUPPORT. One step and what it keeps: the induction over the waiting commands, and the soundness of the port records (O1, O13,
O54). -/

namespace Sys2Proof.Machine

/-! ### One step -/

/-- A step is a crystal period or the command at the front of the queue (95; log entry 5). -/
theorem step_cases {s t : State} (h : step s = .next t) :
    t = s.crystalPeriod ∨ ∃ c rest, exec c { s with pending := rest } = .next t := by
  unfold step at h
  split at h
  · injection h with h
    exact .inl h.symm
  · exact .inr ⟨_, _, h⟩

/-- An invariant that a crystal period and every command keep, and that does not speak of the waiting commands, is kept by every
step. -/
theorem step_keeps {P : State → Prop} (waiting : ∀ s l, P s → P { s with pending := l })
    (crystal : ∀ s, P s → P s.crystalPeriod) (command : ∀ c s t, P s → exec c s = .next t → P t) {s t : State} (h : P s)
    (run : step s = .next t) : P t := by
  rcases step_cases run with rfl | ⟨c, rest, run⟩
  · exact crystal s h
  · exact command c _ t (waiting s rest h) run

/-- A crystal period writes at most the active reference line (R150). -/
theorem crystalPeriod_cases (s : State) :
    s.crystalPeriod = s ∨ ∃ k, s.reference.active = .field k ∧ (s.line k).receiving = true ∧
      s.crystalPeriod = s.putLine k { s.line k with timer := tick (s.line k).timer } := by
  unfold State.crystalPeriod
  split
  · next k active =>
    split
    · next up => exact .inr ⟨k, active, up, rfl⟩
    · exact .inl rfl
  · exact .inl rfl

/-- Settles O1: both clauses are the definition of a step, the second one with the timer's tick written out. -/
theorem stepTakesTheFrontCommand : Obligations.StepTakesTheFrontCommand := by
  intro s
  refine ⟨fun c => rfl, fun idle k active up => ?_, fun idle down => ?_⟩
  · simp [step, idle, State.crystalPeriod, active, up, tick]
  · rcases crystalPeriod_cases s with same | ⟨k, active, up, -⟩
    · simp [step, idle, same]
    · simp [down k active] at up

/-! ### Deposits (R15, R16, R17) -/

@[simp] theorem putPort_self (s : State) (p : Port) : s.putPort p (s.port p) = s := by simp [State.putPort, State.port]

/-- Settles O13: the three cases of a deposit, and induction over the deposits of one event. -/
theorem depositRespectsCapacity : Obligations.DepositRespectsCapacity := by
  refine ⟨fun s p n up => ⟨fun held => ?_, fun free room => ?_, fun free full => ?_⟩, fun s x low => ?_,
    postAll_port_queue, fun r => ?_⟩
  · simp [State.post, PortRec.deposit, held, up]
  · simp [State.post, PortRec.deposit, free, up, Config.queueCapacity, room]
  · simp [State.post, PortRec.deposit, free, up, Config.queueCapacity, Nat.not_lt.mpr full]
  · exact postAll_of_nresetLow s [x] low
  · cases h : r.queue <;> simp [PortRec.atn, h]

/-! ### The port records stay sound -/

/-- What the invariant asks of one port, with NRESET asserted or not (R1, R15, R19, R21). -/
def PortRec.SoundUnder (low : Bool) (r : PortRec) : Prop :=
  r.Sound ∧ (low = true → r = { PortRec.reset with held := r.held })

/-- A port in a transaction is not held, and NRESET is not asserted (R1, R19, R21). -/
theorem SoundUnder.of_txn {low : Bool} {r : PortRec} (h : r.SoundUnder low) (txn : r.txn ≠ none) :
    low = false ∧ r.held = false := by
  obtain ⟨⟨-, -, -, held⟩, reset⟩ := h
  refine ⟨Bool.eq_false_iff.mpr fun e => txn ?_, Bool.eq_false_iff.mpr fun e => txn ?_⟩
  · rw [reset e]; rfl
  · rw [held e]; rfl

/-- A request is taken only while NRESET is released, from a port that is not held (R1, R19, R21). -/
theorem spelled_of_sound {s : State} {p : Port} {i : Instr} {tag : Byte} (sound : PortsSound s)
    (h : s.spelled p i = some tag) : s.nresetLow = false ∧ (s.port p).held = false :=
  SoundUnder.of_txn (sound p) (spelled_txn h)

/-- A port that is neither held nor in reset is sound by its queue, its incomplete byte and its data output. -/
theorem soundUnder_of_free {r : PortRec} (free : r.held = false) (queue : r.queue.length ≤ Config.queueCapacity)
    (bits : ∀ t, r.txn = some t → t.bits.length < 8) (sdo : r.txn = none → r.sdo = none) : r.SoundUnder false :=
  ⟨⟨queue, bits, sdo, fun h => by simp [free] at h⟩, nofun⟩

/-- Deposits keep a port sound. -/
theorem postAll_soundUnder {s : State} (xs : List Post) {q : Port} (h : (s.port q).SoundUnder s.nresetLow) :
    ((s.postAll xs).port q).SoundUnder s.nresetLow := by
  cases low : s.nresetLow
  · cases held : (s.port q).held
    · obtain ⟨⟨queue, bits, sdo, -⟩, -⟩ := h
      refine soundUnder_of_free ?_ (postAll_port_queue_le s xs queue) ?_ ?_
      · rw [postAll_port_held, held]
      · rwa [postAll_port_txn]
      · rwa [postAll_port_txn, postAll_port_sdo]
    · rwa [postAll_port_of_held s xs held, ← low]
  · rwa [postAll_of_nresetLow s xs low, ← low]

theorem Deposits.portsSound {s t : State} (posts : Deposits s t) (nreset : t.nresetLow = s.nresetLow) (h : PortsSound s) :
    PortsSound t := by
  obtain ⟨xs, ports⟩ := posts
  intro q
  rw [nreset, port_of_ports ports q]
  exact postAll_soundUnder xs (h q)

/-- One port replaced by a sound record. -/
theorem portsSound_putPort {s : State} {p : Port} {r : PortRec} (h : PortsSound s) (sound : r.SoundUnder s.nresetLow) :
    PortsSound (s.putPort p r) := by
  intro q
  rw [port_putPort]
  split <;> [exact sound; exact h q]

/-- A port that has just been answered is sound (R1, R4). -/
theorem answered_soundUnder {r : PortRec} (free : r.held = false) (queue : r.queue.length ≤ Config.queueCapacity)
    (txn : r.txn = none) (sdo : r.sdo = none) (slot : Option Reply) : ({ r with slot := slot } : PortRec).SoundUnder false :=
  soundUnder_of_free free queue (by simp [txn]) (fun _ => sdo)

/-- A request keeps every port sound: its own is idle and answered, the others see deposits. -/
theorem request_portsSound {i : Instr} {p : Port} {s t : State} (asks : askingPort i = some p) (h : PortsSound s)
    (done : exec i s = .next t) (nreset : t.nresetLow = s.nresetLow) : PortsSound t := by
  rcases request_cases asks done with ⟨-, rfl⟩ | ⟨tag, r, spelled, owner, rfl⟩
  · exact h
  · obtain ⟨up, free⟩ := spelled_of_sound h spelled
    obtain ⟨xs, others⟩ := owner.others
    have queue := owner.own_queue (by simpa using (h p).1.1)
    intro q
    rw [nreset, up]
    by_cases hq : q = p
    · subst hq
      rw [port_reply_same]
      exact answered_soundUnder (by simp [owner.own_held, free]) queue (by simp [owner.own_txn]) (by simp [owner.own_sdo]) _
    · rw [port_reply_ne _ _ _ hq, others q hq, ← up]
      exact postAll_soundUnder (s := s.endTransaction p) xs (by rw [port_endTransaction_ne s hq]; exact h q)

theorem clock_bits (t : Transaction) (b : Bool) (h : t.bits.length < 8) : (t.clock b).bits.length < 8 := by
  unfold Transaction.clock
  split
  · simp
  · simp; omega

theorem assertReset_soundUnder (low : Bool) : PortRec.assertReset.SoundUnder low := by
  simp [PortRec.SoundUnder, PortRec.Sound, PortRec.assertReset, PortRec.reset]

/-- The release of PRST leaves a sound port (R19). -/
theorem released_soundUnder {low : Bool} {r : PortRec} (h : r.SoundUnder low) :
    ({ r with held := false } : PortRec).SoundUnder low := by
  obtain ⟨⟨queue, bits, sdo, held⟩, reset⟩ := h
  refine ⟨⟨queue, bits, sdo, nofun⟩, fun e => ?_⟩
  rw [reset e]

theorem resetHeld_soundUnder (low held : Bool) : ({ PortRec.reset with held := held } : PortRec).SoundUnder low := by
  cases held <;> simp [PortRec.SoundUnder, PortRec.Sound, PortRec.assertReset, PortRec.reset]

/-- A talk step of a port reset makes deposits alone at the ports. -/
theorem withdrawPort_deposits (s : State) (p : Port) : Deposits s (s.withdrawPort p) := by
  unfold State.withdrawPort
  generalize List.finRange 16 = l
  induction l generalizing s with
  | nil => exact .of_ports_eq rfl
  | cons e l ih =>
    rw [List.foldl_cons]
    split
    · exact ih s
    · exact (setTalk_deposits e _).trans (ih _) (by rw [setTalk_eq])

theorem txn_of_verdict {s : State} {p : Port} {v : FrameVerdict} (h : s.verdict p = some v) : (s.port p).txn ≠ none := by
  intro e
  simp [State.verdict, e] at h

/-- A transaction that ends with an answer from the port itself leaves the ports sound (R3, R5). -/
theorem refused_portsSound {s : State} {p : Port} (h : PortsSound s) (txn : (s.port p).txn ≠ none) (tag : Byte) (a : Answer) :
    PortsSound ((s.endTransaction p).reply p tag a) := by
  obtain ⟨up, free⟩ := SoundUnder.of_txn (h p) txn
  intro q
  rw [reply_nresetLow, endTransaction_nresetLow]
  by_cases hq : q = p
  · subst hq
    rw [port_reply_same, port_endTransaction_same, up]
    exact answered_soundUnder (r := { s.port q with txn := none, sdo := none, slot := none }) free (h q).1.1 rfl rfl _
  · rw [port_reply_ne _ _ _ hq, port_endTransaction_ne s hq]
    exact h q

/-- A command on the pins keeps every port sound. -/
theorem pins_portsSound {i : Instr} {s t : State} (pins : onPins i = true) (h : PortsSound s) (done : exec i s = .next t) :
    PortsSound t := by
  cases i <;> cases pins
  case transactionBegin p =>
    simp only [exec, execTransactionBegin] at done
    split at done <;> injection done with done <;> subst done
    · exact h
    · next start =>
      simp only [Bool.or_eq_true, not_or, Bool.not_eq_true] at start
      refine portsSound_putPort h ?_
      rw [start.1.1]
      exact soundUnder_of_free start.1.2 (h p).1.1 (by simp) nofun
  case framing p =>
    simp only [exec, execFraming] at done
    split at done <;> injection done with done <;> subst done
    · next verdict => exact refused_portsSound h (txn_of_verdict verdict) _ _
    · exact h
  case unknown p =>
    simp only [exec, execUnknown] at done
    split at done <;> injection done with done <;> subst done
    · next verdict => exact refused_portsSound h (txn_of_verdict verdict) _ _
    · exact h
  case clockPeriod p sdi =>
    simp only [exec, execClockPeriod] at done
    split at done <;> injection done with done <;> subst done
    · exact h
    · next txn some_txn =>
      obtain ⟨up, free⟩ := SoundUnder.of_txn (h p) (by simp [some_txn])
      refine portsSound_putPort h ?_
      rw [up]
      refine soundUnder_of_free free (h p).1.1 ?_ nofun
      rintro _ ⟨⟩
      exact clock_bits txn sdi ((h p).1.2.1 txn some_txn)
  case prstRelease p =>
    injection done with done
    subst done
    exact portsSound_putPort h (released_soundUnder (h p))
  case prstAssert p =>
    simp only [exec, execPrstAssert] at done
    split at done <;> injection done with done <;> subst done
    · exact h
    · refine (withdrawPort_deposits _ p).portsSound (by rw [withdrawPort_eq]) ?_
      exact portsSound_putPort h (assertReset_soundUnder _)
  case chipReset =>
    injection done with done
    subst done
    intro q
    have port : s.chipReset.port q = { PortRec.reset with held := (s.port q).held } := by simp [State.port, State.chipReset]
    rw [port]
    exact resetHeld_soundUnder _ _
  case nresetRelease =>
    injection done with done
    subst done
    split
    · exact fun q => ⟨(h q).1, nofun⟩
    · exact h

/-- Only the commands on the pins change NRESET. -/
theorem nresetLow_of_offPins {i : Instr} {s t : State} (off : onPins i = false) (done : exec i s = .next t) :
    t.nresetLow = s.nresetLow := by
  refine (exec_kept done).nreset ?_
  cases i <;> first | rfl | cases off

theorem exec_portsSound {i : Instr} {s t : State} (h : PortsSound s) (done : exec i s = .next t) : PortsSound t := by
  cases pins : onPins i with
  | true => exact pins_portsSound pins h done
  | false =>
    have nreset := nresetLow_of_offPins pins done
    rcases request_or_pins_or_event i s with ⟨p, asks⟩ | pins' | ⟨u, done', -, posts⟩
    · exact request_portsSound asks h done nreset
    · simp [pins] at pins'
    · rw [done] at done'
      cases done'
      exact posts.portsSound nreset h

theorem step_portsSound {s t : State} (h : PortsSound s) (run : step s = .next t) : PortsSound t := by
  refine step_keeps (fun s l h => h) (fun s h => ?_) (fun c s t => exec_portsSound) h run
  rcases crystalPeriod_cases s with same | ⟨k, -, -, e⟩
  · rwa [same]
  · rw [e]; exact h

/-- Settles O54: a request is taken only from a port that is out of reset, deposits respect the capacity and pass a held port
by, and the commands on the pins are gone through one by one. -/
theorem stepKeepsPortsSound : Obligations.StepKeepsPortsSound := fun _ _ => step_portsSound

end Sys2Proof.Machine

/-! SUPPORT. The arithmetic of gain words (04, sections 4.1 to 4.3): the tables, scaling and saturation, ramps (O29, O30, O31). -/

namespace Sys2Proof.Machine

/-! ### The gain tables (R61, R64, R65) -/

theorem gain_le_unity : ∀ a : Level, gain a ≤ Config.unity := by decide +kernel

theorem gain_succ_lt : ∀ a : Fin 127, gain a.succ < gain a.castSucc := by decide +kernel

theorem gain_strictAnti : StrictAnti gain := Fin.strictAnti_iff_succ_lt.mpr gain_succ_lt

/-- The rounded law of R64, code by code: both sides are raised to the power 40, so that only whole numbers are compared. -/
theorem gain_rounds : ∀ a : Level, a.val ≤ 126 →
    (2 * gain a - 1) ^ 40 * 10 ^ a.val ≤ 131072 ^ 40 ∧ 131072 ^ 40 < (2 * gain a + 1) ^ 40 * 10 ^ a.val := by
  decide +kernel

theorem trimGain_neg (a : Level) : trimGain (-a.val) = gain a := by
  simp [trimGain, gain]

/-- Every trim gain word lies between those of the trim codes -24 and +24 (R65, R68). -/
theorem trimGain_clampTrim_bounds : ∀ b : Byte, 16462 ≤ trimGain (clampTrim b) ∧ trimGain (clampTrim b) ≤ 260899 := by
  decide +kernel

/-- Settles O29: the tables hold 128 and 24 numbers, which the kernel compares with the law. -/
theorem gainWordsFollowTheLaw : Obligations.GainWordsFollowTheLaw :=
  ⟨gain_rounds, by decide, by decide, by decide, fun _ _ h => gain_strictAnti h, by decide, by decide, fun a _ => trimGain_neg a⟩

/-! ### Scaling and saturation (R66, R67) -/

theorem scale_bounds (x : Int) (m : Nat) :
    65536 * scale x m ≤ x * m + 32768 ∧ x * m + 32768 < 65536 * (scale x m + 1) := by
  unfold scale; omega

theorem scale_unity (x : Int) : scale x 65536 = x := by unfold scale; push_cast; omega

@[simp] theorem scale_zero (x : Int) : scale x 0 = 0 := by simp [scale]

/-- A gain word of at most unity never raises a magnitude (R66). -/
theorem scale_natAbs_le {x : Int} {m c : Nat} (hx : x.natAbs ≤ c) (hm : m ≤ 65536) : (scale x m).natAbs ≤ c := by
  have product : (x * m).natAbs ≤ c * 65536 := by
    rw [Int.natAbs_mul, Int.natAbs_natCast]
    exact Nat.mul_le_mul hx hm
  unfold scale
  omega

theorem saturate_of_lt {lo hi x : Int} (h : x < lo) : saturate lo hi x = lo := by simp [saturate, h]

theorem saturate_of_gt {lo hi x : Int} (order : lo ≤ hi) (h : hi < x) : saturate lo hi x = hi := by
  have above : ¬ x < lo := by omega
  simp [saturate, above, h]

theorem saturate_of_mem {lo hi x : Int} (above : lo ≤ x) (below : x ≤ hi) : saturate lo hi x = x := by
  simp [saturate, Int.not_lt.mpr above, Int.not_lt.mpr below]

/-- A saturated value lies within the bounds (R67). -/
theorem saturate_mem {lo hi : Int} (order : lo ≤ hi) (x : Int) : lo ≤ saturate lo hi x ∧ saturate lo hi x ≤ hi := by
  unfold saturate
  split
  · exact ⟨le_rfl, order⟩
  · split <;> omega

theorem saturate24_mem (x : Int) : -8388608 ≤ saturate24 x ∧ saturate24 x ≤ 8388607 :=
  saturate_mem (by decide) x

/-- Settles O30: exact division by 65,536, and the three branches of saturation. -/
theorem scalingRoundsAndSaturationBounds : Obligations.ScalingRoundsAndSaturationBounds :=
  ⟨scale_bounds, fun x => ⟨scale_unity x, scale_zero x⟩, fun _ _ _ => scale_natAbs_le, by decide,
    fun _ _ _ order => ⟨saturate_of_lt, saturate_of_gt order, saturate_of_mem⟩, by decide⟩

/-! ### Ramps (R69, R70) -/

theorem aim_of_zero (r : Ramp) (target : Nat) (z : Bool) : r.aim target 0 z = { cur := target, target := target, step := 0 } := by
  simp [Ramp.aim]

theorem aim_cur_of_ne {frames : Nat} (r : Ramp) (target : Nat) (z : Bool) (h : frames ≠ 0) :
    (r.aim target frames z).cur = if z = true then 0 else r.cur := by
  simp [Ramp.aim, h]

/-- The step of a ramp is the distance divided by the length, rounded up, and at least 1 (R69). -/
theorem aim_step_bounds {frames : Nat} (r : Ramp) (target : Nat) (z : Bool) (h : frames ≠ 0) :
    let start := if z = true then 0 else r.cur
    let distance := max start target - min start target
    let step := (r.aim target frames z).step
    1 ≤ step ∧ distance ≤ frames * step ∧ (step = 1 ∨ frames * (step - 1) < distance) := by
  intro start distance step
  have step_eq : step = max 1 ((distance + frames - 1) / frames) := by simp [step, Ramp.aim, h, ceilDiv, distance, start]
  have rounded := Nat.div_add_mod (distance + frames - 1) frames
  have remainder := Nat.mod_lt (distance + frames - 1) (Nat.pos_of_ne_zero h)
  rw [step_eq]
  generalize (distance + frames - 1) / frames = q at *
  rcases Nat.eq_zero_or_pos q with rfl | pos
  · simp at *; omega
  · have : frames * (q - 1) = frames * q - frames := by rw [Nat.mul_sub, Nat.mul_one]
    have : frames ≤ frames * q := Nat.le_mul_of_pos_right _ pos
    rw [Nat.max_eq_right pos]
    omega

theorem advance_cur_up {r : Ramp} (h : r.cur ≤ r.target) : r.advance.cur = min (r.cur + r.step) r.target := by
  unfold Ramp.advance
  split
  · rfl
  · simp only; omega

theorem advance_cur_down {r : Ramp} (h : r.target ≤ r.cur) : r.advance.cur = max (r.cur - r.step) r.target := by
  unfold Ramp.advance
  split
  · omega
  · rfl

section Frames
variable (r : Ramp)

theorem advance_iterate_target (n : Nat) : (Ramp.advance^[n] r).target = r.target := by
  induction n with
  | zero => rfl
  | succ n ih => rw [Function.iterate_succ_apply', advance_target, ih]

theorem advance_iterate_step (n : Nat) : (Ramp.advance^[n] r).step = r.step := by
  induction n with
  | zero => rfl
  | succ n ih => rw [Function.iterate_succ_apply', advance_step, ih]

/-- A rising ramp after `n` frames. -/
theorem advance_iterate_up (h : r.cur ≤ r.target) (n : Nat) :
    (Ramp.advance^[n] r).cur = min (r.cur + n * r.step) r.target := by
  induction n with
  | zero => simp; omega
  | succ n ih =>
    have below : (Ramp.advance^[n] r).cur ≤ (Ramp.advance^[n] r).target := by rw [ih, advance_iterate_target]; omega
    rw [Function.iterate_succ_apply', advance_cur_up below, advance_iterate_step, advance_iterate_target, ih, Nat.succ_mul]
    omega

/-- A falling ramp after `n` frames. -/
theorem advance_iterate_down (h : r.target ≤ r.cur) (n : Nat) :
    (Ramp.advance^[n] r).cur = max (r.cur - n * r.step) r.target := by
  induction n with
  | zero => simp; omega
  | succ n ih =>
    have above : (Ramp.advance^[n] r).target ≤ (Ramp.advance^[n] r).cur := by rw [ih, advance_iterate_target]; omega
    rw [Function.iterate_succ_apply', advance_cur_down above, advance_iterate_step, advance_iterate_target, ih, Nat.succ_mul]
    omega

end Frames

/-- Settles O31: a ramp of `n` frames has moved by `n` steps, cut off at the target. -/
theorem rampReachesItsTarget : Obligations.RampReachesItsTarget := by
  intro r target frames fromZero start a distance
  have target_eq : a.target = target := aim_target r target frames fromZero
  rcases Nat.eq_zero_or_pos frames with rfl | pos
  · have a_eq : a = { cur := target, target := target, step := 0 } := aim_of_zero r target fromZero
    have still (n : Nat) : (Ramp.advance^[n] a).cur = target := by
      rw [advance_iterate_up a (by rw [a_eq]), a_eq]; simp
    have step_eq : a.step = 0 := by rw [a_eq]
    refine ⟨target_eq, fun _ => by rw [a_eq], fun h => absurd rfl h, fun n => ?_⟩
    rw [still n, still (n + 1), advance_iterate_target, target_eq, step_eq]
    exact ⟨fun _ => rfl, by omega, by omega, rfl, fun _ => rfl, fun _ => rfl, fun _ => rfl⟩
  · have nonzero : frames ≠ 0 := by omega
    have cur_eq : a.cur = start := aim_cur_of_ne r target fromZero nonzero
    obtain ⟨positive, covers, least⟩ := aim_step_bounds r target fromZero nonzero
    refine ⟨target_eq, fun h => absurd h nonzero, fun _ => ⟨cur_eq, positive, covers, least⟩, fun n => ?_⟩
    have moved : frames ≤ n → frames * a.step ≤ n * a.step := fun h => Nat.mul_le_mul_right _ h
    have next : (n + 1) * a.step = n * a.step + a.step := Nat.succ_mul _ _
    change 1 ≤ a.step at positive
    change distance ≤ frames * a.step at covers
    rw [advance_iterate_target, target_eq]
    rcases le_total start target with up | down
    · have at_frame (n : Nat) : (Ramp.advance^[n] a).cur = min (start + n * a.step) target := by
        rw [advance_iterate_up a (by rw [cur_eq, target_eq]; exact up), cur_eq, target_eq]
      rw [at_frame n, at_frame (n + 1), next]
      exact ⟨fun h => by have := moved h; omega, by omega, by omega, rfl, by omega, by omega, by omega⟩
    · have at_frame (n : Nat) : (Ramp.advance^[n] a).cur = max (start - n * a.step) target := by
        rw [advance_iterate_down a (by rw [cur_eq, target_eq]; exact down), cur_eq, target_eq]
      rw [at_frame n, at_frame (n + 1), next]
      exact ⟨fun h => by have := moved h; omega, by omega, by omega, rfl, by omega, by omega, by omega⟩

end Sys2Proof.Machine

/-! SUPPORT. Parameter bytes and window checks: what each operand reader answers, said once; and the statements on names out of class,
on uncovered destinations and on the authority unit (O12, O16, O17, O19, O21). -/

namespace Sys2Proof.Machine

/-! ### Parameter bytes (R9, R10, R166) -/

theorem inClass_eq {n : Nat} {b : Byte} {i : Fin n} (h : b.toNat = i.val) : inClass n b = some i := by
  have lt : b.toNat < n := by omega
  simp [inClass, h]

theorem inClass_none {n : Nat} {b : Byte} (h : n ≤ b.toNat) : inClass n b = none := by
  simp [inClass, Nat.not_lt.mpr h]

theorem inClass_lt {n : Nat} {b : Byte} (h : b.toNat < n) : inClass n b = some ⟨b.toNat, h⟩ := by
  simp [inClass, h]

theorem clampLevel_val (b : Byte) : (clampLevel b).val = min 127 b.toNat := by
  unfold clampLevel
  split <;> simp <;> omega

theorem clampLevel_eq {b : Byte} {l : Level} (h : l.val = min 127 b.toNat) : clampLevel b = l :=
  Fin.ext (by rw [clampLevel_val, h])

theorem clampLead_val (b : Byte) : (clampLead b).val = min 20 b.toNat := by
  unfold clampLead
  split <;> simp <;> omega

theorem maskTwo_toNat (b : Byte) : (maskTwo b).toNat = b.toNat % 4 := by simp [maskTwo]

theorem maskSix_toNat (b : Byte) : (maskSix b).toNat = b.toNat % 64 := by simp [maskSix]

theorem maskTwo_eq {b : Byte} {x : BitVec 2} (h : x.toNat = b.toNat % 4) : maskTwo b = x :=
  BitVec.eq_of_toNat_eq (by rw [maskTwo_toNat, h])

theorem byte_toNat {n : Nat} (h : n < 256) : (byte n).toNat = n := by simp [byte]; omega

theorem readMode_code (m : EntryMode) {b : Byte} (h : b.toNat = m.code) : readMode b = some m := by
  cases m <;> simp [readMode, h, EntryMode.code]

theorem readMode_lt {b : Byte} (h : b.toNat < 2) : ∃ m, readMode b = some m := by
  have two : b.toNat = 0 ∨ b.toNat = 1 := by omega
  rcases two with zero | one
  · exact ⟨.latched, readMode_code .latched zero⟩
  · exact ⟨.momentary, readMode_code .momentary one⟩

theorem readMode_none : ∀ {b : Byte}, 2 ≤ b.toNat → readMode b = none := by decide

theorem readEar_code (m : EarMode) : readEar m.code = some m := by cases m <;> rfl

theorem readEar_none : ∀ {b : Byte}, 4 ≤ b.toNat → readEar b = none := by decide

theorem readFilter_none {b : Byte} (low : 4 ≤ b.toNat) (high : b.toNat < 255) : readFilter b = none := by
  have unmarked : b ≠ 0xFF := by rintro rfl; simp at high
  rw [readFilter, if_neg unmarked, if_neg (Nat.not_lt.mpr low)]

theorem readFilter_some {b : Byte} (h : b.toNat < 4 ∨ b = 0xFF) :
    readFilter b = some (if b = 0xFF then none else some (b.setWidth 2)) := by
  unfold readFilter
  split
  · rfl
  · next unmarked => rw [if_pos (h.resolve_right unmarked)]

theorem readBed_none {b : Byte} (h : b.toNat < 32 ∨ (40 ≤ b.toNat ∧ b.toNat < 255)) : readBed b = none := by
  have unmarked : b ≠ 0xFF := by rintro rfl; simp at h
  have outside : ¬ (32 ≤ b.toNat ∧ b.toNat < 40) := by omega
  rw [readBed, if_neg unmarked, dif_neg outside]

/-- The bed source byte of R166. -/
theorem readBed_eq {b : Byte} {x : Option Programme} (h : b.toNat = match x with | none => 255 | some g => 32 + g.val) :
    readBed b = some x := by
  cases x with
  | none =>
    have : b = 0xFF := BitVec.eq_of_toNat_eq h
    simp [readBed, this]
  | some g =>
    have value : b.toNat = 32 + g.val := h
    have unmarked : b ≠ 0xFF := by rintro rfl; simp at value; omega
    have same : b.toNat - 32 = g.val := by omega
    rw [readBed, if_neg unmarked, dif_pos (by omega)]
    simp only [same]

theorem readBed_some {b : Byte} (h : (32 ≤ b.toNat ∧ b.toNat < 40) ∨ b = 0xFF) : ∃ x, readBed b = some x := by
  rcases h with inside | rfl
  · exact ⟨some ⟨b.toNat - 32, by omega⟩, readBed_eq (by simp; omega)⟩
  · exact ⟨none, rfl⟩

theorem readChoice_code : ∀ x : RefSource, readChoice x.code = some x
  | .house => rfl
  | .crystal => rfl
  | .field k => by revert k; decide

theorem readChoice_none {b : Byte} (h : (2 ≤ b.toNat ∧ b.toNat < 16) ∨ 24 ≤ b.toNat) : readChoice b = none := by
  have house : b ≠ 0x00 := by rintro rfl; simp at h
  have crystal : b ≠ 0x01 := by rintro rfl; simp at h
  have field : ¬ (0x10 ≤ b.toNat ∧ b.toNat < 0x18) := by omega
  rw [readChoice, if_neg house, if_neg crystal, dif_neg field]

/-! ### Requests that only answer -/

section Answers
variable {s : State} {p : Port} {i : Instr} {tag : Byte} {act : State → State × Answer}

/-- A taken request whose owner leaves the state and answers `a`. -/
theorem takeRequest_answers {a : Answer} (h : s.spelled p i = some tag)
    (acts : act (s.endTransaction p) = (s.endTransaction p, a)) :
    takeRequest s p i act = .next ((s.endTransaction p).reply p tag a) := by
  rw [takeRequest_spelled act h, acts]

theorem takeRequest_does {t : State} {a : Answer} (h : s.spelled p i = some tag) (acts : act (s.endTransaction p) = (t, a)) :
    takeRequest s p i act = .next (t.reply p tag a) := by
  rw [takeRequest_spelled act h, acts]

theorem withAuthority_of_holder {r : State × Answer} (holds : s.access.holder = some p) (acts : act s = r) :
    withAuthority p act s = r := by
  rw [withAuthority_holder act holds, acts]

end Answers

/-! ### Window checks (R25, R26, R27) -/

section Windows
variable {a : AccessUnit} {p : Port} {d : Dest} {w : Window}

theorem checkWrite_none (h : a.governing p d = none) : a.checkWrite p d = .error (denied denyNoWindow) := by
  simp [AccessUnit.checkWrite, h]

theorem checkWrite_listenOnly (h : a.governing p d = some w) (only : w.listenOnly = true) :
    a.checkWrite p d = .error (denied denyListenOnly) := by
  simp [AccessUnit.checkWrite, h, only]

theorem checkRead_none (h : a.governing p d = none) : a.checkRead p d = .error (denied denyNoWindow) := by
  simp [AccessUnit.checkRead, h]

theorem checkRead_of_ne_none (h : a.governing p d ≠ none) : ∃ w, a.checkRead p d = .ok w := by
  obtain ⟨w, hw⟩ := Option.ne_none_iff_exists'.mp h
  exact ⟨w, checkRead_ok.mpr hw⟩

/-- Window 0 governs wherever it matches, window 1 where it alone matches (R25). -/
theorem governing_cases (a : AccessUnit) (p : Port) (d : Dest) :
    ((a.window p 0).matchesDest d = true → a.governing p d = some (a.window p 0)) ∧
    ((a.window p 0).matchesDest d = false → (a.window p 1).matchesDest d = true → a.governing p d = some (a.window p 1)) ∧
    ((a.window p 0).matchesDest d = false → (a.window p 1).matchesDest d = false → a.governing p d = none) := by
  unfold AccessUnit.governing
  refine ⟨fun first => ?_, fun first second => ?_, fun first second => ?_⟩ <;> simp [*]

end Windows

/-- A byte that names an earpiece names the destination 24 + e. -/
theorem earDest_eq {b : Byte} {d : Dest} (lt : b.toNat < 16) (h : 24 + b.toNat = d.val) :
    inClass 16 b = some ⟨b.toNat, lt⟩ ∧ earDest ⟨b.toNat, lt⟩ = d :=
  ⟨inClass_lt lt, Fin.ext h⟩

/-- A byte that names a line names the destination 40 + k. -/
theorem lineDest_eq {b : Byte} {d : Dest} (h : 40 + b.toNat = d.val) :
    ∃ k, inClass 8 b = some k ∧ lineDest k = d :=
  ⟨⟨b.toNat, by omega⟩, inClass_lt (by omega), Fin.ext h⟩

/-! ### The statements -/

/-- Settles O16: each owner reads its names before anything else, and the authority check stands in front. -/
theorem namesOutOfClassAreRefused : Obligations.NamesOutOfClassAreRefused := by
  intro i p s tag asks spelled out
  cases i <;> first | exact False.elim out | (obtain rfl := Option.some.inj asks)
  case readWindow _ port window =>
    refine takeRequest_answers spelled ?_
    rcases out with out | out <;> simp [readWindow, inClass_none out, rangeAnswer]
  case setSeizeRight _ port switch =>
    refine takeRequest_answers spelled (withAuthority_of_holder out.1 ?_)
    simp [setSeizeRight, inClass_none out.2, rangeAnswer]
  case setWindow _ port window a b c d e f =>
    refine takeRequest_answers spelled (withAuthority_of_holder out.1 ?_)
    rcases out.2 with out | out <;> simp [setWindow, inClass_none out, rangeAnswer]
  case routeAdd _ dest source level mode =>
    refine takeRequest_answers spelled ?_
    rcases out with out | out | out <;> simp [routeAdd, inClass_none, readMode_none, out, rangeAnswer]
  case routeLevel _ dest source level =>
    refine takeRequest_answers spelled ?_
    rcases out with out | out <;> simp [routeLevel, inClass_none out, rangeAnswer]
  case routeRemove _ dest source =>
    refine takeRequest_answers spelled ?_
    rcases out with out | out <;> simp [routeRemove, inClass_none out, rangeAnswer]
  case routeClear _ dest filter =>
    refine takeRequest_answers spelled ?_
    rcases out with out | out
    · simp [routeClear, inClass_none out, rangeAnswer]
    · simp [routeClear, readFilter_none out.1 out.2, rangeAnswer]
  case readRoutes _ dest => exact takeRequest_answers spelled (by simp [readRoutes, inClass_none out, rangeAnswer])
  case setDest _ dest master fade => exact takeRequest_answers spelled (by simp [setDest, inClass_none out, rangeAnswer])
  case setTrim _ source trim =>
    refine takeRequest_answers spelled (withAuthority_of_holder out.1 ?_)
    simp [setTrim, inClass_none out.2, rangeAnswer]
  case readLevels _ first count => exact takeRequest_answers spelled (by simp [readLevels, inClass_none out, rangeAnswer])
  case talkRequest _ earpiece talker =>
    refine takeRequest_answers spelled ?_
    rcases out with out | out <;> simp [talkRequest, inClass_none out, rangeAnswer]
  case talkRelease _ earpiece => exact takeRequest_answers spelled (by simp [talkRelease, inClass_none out, rangeAnswer])
  case setFoldback _ earpiece bed a b c d e f =>
    refine takeRequest_answers spelled ?_
    rcases out with out | out
    · simp [setFoldback, inClass_none out, rangeAnswer]
    · simp [setFoldback, readBed_none out, rangeAnswer]
  case readFoldback _ earpiece => exact takeRequest_answers spelled (by simp [readFoldback, inClass_none out, rangeAnswer])
  case talkGroup _ group talker =>
    refine takeRequest_answers spelled ?_
    rcases out with out | out <;> simp [talkGroup, inClass_none out, rangeAnswer]
  case releaseGroup _ group => exact takeRequest_answers spelled (by simp [releaseGroup, inClass_none out, rangeAnswer])
  case setGroup _ group members =>
    refine takeRequest_answers spelled (withAuthority_of_holder out.1 ?_)
    simp [setGroup, inClass_none out.2, rangeAnswer]
  case identify _ earpiece => exact takeRequest_answers spelled (by simp [identify, inClass_none out, rangeAnswer])
  case readAccessory _ earpiece => exact takeRequest_answers spelled (by simp [readAccessory, inClass_none out, rangeAnswer])
  case setProfile _ index valid matchId ceiling ear =>
    refine takeRequest_answers spelled (withAuthority_of_holder out.1 ?_)
    rcases out.2 with out | out
    · simp [setProfile, inClass_none out, rangeAnswer]
    · simp [setProfile, readEar_none out, rangeAnswer]
  case fieldStart _ line => exact takeRequest_answers spelled (by simp [fieldStart, inClass_none out, rangeAnswer])
  case fieldStop _ line => exact takeRequest_answers spelled (by simp [fieldStop, inClass_none out, rangeAnswer])
  case fieldPark _ line => exact takeRequest_answers spelled (by simp [fieldPark, inClass_none out, rangeAnswer])
  case readField _ line => exact takeRequest_answers spelled (by simp [readField, inClass_none out, rangeAnswer])
  case setFieldPlan _ line depth quiet autoWake acquire =>
    refine takeRequest_answers spelled (withAuthority_of_holder out.1 ?_)
    simp [setFieldPlan, inClass_none out.2, rangeAnswer]
  case selectReference _ choice =>
    refine takeRequest_answers spelled (withAuthority_of_holder out.1 ?_)
    simp [selectReference, readChoice_none out.2, rangeAnswer]

end Sys2Proof.Machine

/-! SUPPORT. Proofs of statements about control ports, windows and authority (01, 02): O6, O7, O8, O12, O17, O19, O21. -/

namespace Sys2Proof.Machine

/-! ### Requests refused by their window check (R26, R27) -/

section Refusals
variable {s : State} {p : Port} {i : Instr} {tag : Byte} {d : Dest} {act : State → State × Answer}

/-- A Write request that answers what its window check answers is DENIED with NO_WINDOW or LISTEN_ONLY. -/
theorem write_refused (spelled : s.spelled p i = some tag) (write : Bool)
    (acts : ∀ a, s.access.checkWrite p d = .error a → act (s.endTransaction p) = (s.endTransaction p, a)) :
    (s.access.governing p d = none →
      takeRequest s p i act = .next ((s.endTransaction p).reply p tag { outcome := .denied, results := [1] })) ∧
    ∀ w, s.access.governing p d = some w → w.listenOnly = true → write = true →
      takeRequest s p i act = .next ((s.endTransaction p).reply p tag { outcome := .denied, results := [2] }) :=
  ⟨fun none => takeRequest_answers spelled (acts _ (checkWrite_none none)),
    fun _ governs only _ => takeRequest_answers spelled (acts _ (checkWrite_listenOnly governs only))⟩

/-- A Read request that answers what its window check answers is DENIED with NO_WINDOW. -/
theorem read_refused (spelled : s.spelled p i = some tag) {write : Bool} (reads : write = false)
    (acts : ∀ a, s.access.checkRead p d = .error a → act (s.endTransaction p) = (s.endTransaction p, a)) :
    (s.access.governing p d = none →
      takeRequest s p i act = .next ((s.endTransaction p).reply p tag { outcome := .denied, results := [1] })) ∧
    ∀ w, s.access.governing p d = some w → w.listenOnly = true → write = true →
      takeRequest s p i act = .next ((s.endTransaction p).reply p tag { outcome := .denied, results := [2] }) :=
  ⟨fun none => takeRequest_answers spelled (acts _ (checkRead_none none)), fun _ _ _ h => by simp [reads] at h⟩

end Refusals

/-- Settles O21: once its names are read, each request of the two classes answers what its window check answers. -/
theorem uncoveredDestinationsAreDenied : Obligations.UncoveredDestinationsAreDenied := by
  refine ⟨governing_cases, fun i p s tag d write asks spelled named => ?_⟩
  cases i <;> first | exact False.elim named | (obtain rfl := Option.some.inj asks)
  case routeAdd _ dest source level mode =>
    obtain ⟨dest, source, mode, -⟩ := named
    obtain ⟨m, mode⟩ := readMode_lt mode
    exact write_refused spelled write fun a h => by simp [routeAdd, inClass_eq dest, inClass_lt source, mode, h]
  case routeLevel =>
    obtain ⟨dest, source, -⟩ := named
    exact write_refused spelled write fun a h => by simp [routeLevel, inClass_eq dest, inClass_lt source, h]
  case routeRemove =>
    obtain ⟨dest, source, -⟩ := named
    exact write_refused spelled write fun a h => by simp [routeRemove, inClass_eq dest, inClass_lt source, h]
  case routeClear =>
    obtain ⟨dest, filter, -⟩ := named
    exact write_refused spelled write fun a h => by simp [routeClear, inClass_eq dest, readFilter_some filter, h]
  case setDest => exact write_refused spelled write fun a h => by simp [setDest, inClass_eq named.1, h]
  case talkRequest =>
    obtain ⟨lt, dest, talker, -⟩ := named
    obtain ⟨earpiece, rfl⟩ := earDest_eq lt dest
    exact write_refused spelled write fun a h => by simp [talkRequest, State.talkOn, earpiece, inClass_lt talker, h]
  case talkRelease =>
    obtain ⟨lt, dest, -⟩ := named
    obtain ⟨earpiece, rfl⟩ := earDest_eq lt dest
    exact write_refused spelled write fun a h => by simp [talkRelease, State.releaseOn, earpiece, h]
  case setFoldback =>
    obtain ⟨lt, dest, bed, -⟩ := named
    obtain ⟨earpiece, rfl⟩ := earDest_eq lt dest
    obtain ⟨x, bed⟩ := readBed_some bed
    exact write_refused spelled write fun a h => by simp [setFoldback, earpiece, bed, h]
  case identify =>
    obtain ⟨lt, dest, -⟩ := named
    obtain ⟨earpiece, rfl⟩ := earDest_eq lt dest
    exact write_refused spelled write fun a h => by simp [identify, earpiece, h]
  case fieldStart =>
    obtain ⟨k, line, rfl⟩ := lineDest_eq named.1
    exact write_refused spelled write fun a h => by simp [fieldStart, line, h]
  case fieldStop =>
    obtain ⟨k, line, rfl⟩ := lineDest_eq named.1
    exact write_refused spelled write fun a h => by simp [fieldStop, line, h]
  case fieldPark =>
    obtain ⟨k, line, rfl⟩ := lineDest_eq named.1
    exact write_refused spelled write fun a h => by simp [fieldPark, line, h]
  case readRoutes => exact read_refused spelled named.2 fun a h => by simp [readRoutes, inClass_eq named.1, h]
  case readFoldback =>
    obtain ⟨lt, dest, reads⟩ := named
    obtain ⟨earpiece, rfl⟩ := earDest_eq lt dest
    exact read_refused spelled reads fun a h => by simp [readFoldback, earpiece, h]
  case readAccessory =>
    obtain ⟨lt, dest, reads⟩ := named
    obtain ⟨earpiece, rfl⟩ := earDest_eq lt dest
    exact read_refused spelled reads fun a h => by simp [readAccessory, earpiece, h]
  case readField =>
    obtain ⟨k, line, rfl⟩ := lineDest_eq named.1
    exact read_refused spelled named.2 fun a h => by simp [readField, line, h]

/-! ### Authority, seize rights and windows (R31, R35 to R38) -/

/-- Settles O17: the three acts by what the authority record holds. -/
theorem authorityChangesHands : Obligations.AuthorityChangesHands := by
  intro s p tag u v
  refine ⟨fun spelled => ⟨fun free => ?_, fun mine => ?_, fun h other held => ?_⟩,
    fun spelled => ⟨fun mine => ?_, fun other => ?_⟩,
    fun spelled => ⟨fun barred => ?_, fun right unheld => ?_, fun h other right held => ?_⟩⟩
  · exact takeRequest_does spelled (by simp [claimAuthority, free, v, u, State.setHolder, okAnswer])
  · exact takeRequest_does spelled (by simp [claimAuthority, mine, u, okAnswer])
  · exact takeRequest_does spelled (by simp [claimAuthority, held, other, u, byte])
  · exact takeRequest_does spelled (by simp [releaseAuthority, mine, u, State.setHolder, okAnswer])
  · exact takeRequest_does spelled (by simp [releaseAuthority, other, u])
  · exact takeRequest_does spelled (by simp [seizeAuthority, barred, u, denied, denyNoSeizeRight])
  · refine takeRequest_does spelled ?_
    rcases unheld with e | e <;> simp [seizeAuthority, right, e, v, u, State.setHolder, authorityLost, okAnswer]
  · exact takeRequest_does spelled (by simp [seizeAuthority, right, held, other, v, u, State.setHolder, authorityLost, okAnswer, byte])

theorem setWindow_eq {port window : Byte} {q : Port} {w : Fin 2} (s : State) (hq : inClass 4 port = some q)
    (hw : inClass 2 window = some w) (enabled base mask priority listenOnly tag : Byte) :
    setWindow port window enabled base mask priority listenOnly tag s =
      ({ s with access := { s.access with windows := put s.access.windows q (put (s.access.windows.get q) w
        { enabled := isOn enabled, base := maskSix base, mask := maskSix mask, priority := maskTwo priority,
          listenOnly := isOn listenOnly, tag := maskTwo tag }) } }, okAnswer []) := by
  simp [setWindow, hq, hw]

/-- Settles O19: the tables are written at the named place alone. -/
theorem holderSetsRightsAndWindows : Obligations.HolderSetsRightsAndWindows := by
  intro s p q w tag port window holds named u
  refine ⟨fun switch spelled => ?_, fun enabled base mask priority listenOnly wtag window_named spelled => ?_⟩
  · refine takeRequest_does spelled (withAuthority_of_holder holds ?_)
    simp [setSeizeRight, inClass_eq named, isOn, okAnswer, u]
  · refine ⟨_, takeRequest_does spelled (withAuthority_of_holder holds (setWindow_eq _ (inClass_eq named) (inClass_eq window_named) _ _ _ _ _ _)),
      rfl, rfl, fun q' w' away => ?_, ?_⟩
    · simp only [AccessUnit.window, get_put]
      split
      · next same => subst same; rw [get_put_ne _ (fun e => away (by rw [e]))]; rfl
      · rfl
    · simp [AccessUnit.window, isOn, maskSix_toNat, maskTwo_toNat]

/-! ### Notices fetched (R10, R18) -/

@[simp] theorem putPort_putPort (s : State) (p : Port) (r r' : PortRec) : (s.putPort p r).putPort p r' = s.putPort p r' := by
  simp [State.putPort]

/-- A list split after as many elements as a `take` leaves. -/
theorem take_drop_of_split {α : Type} {l a b : List α} {n : Nat} (split_at : l = a ++ b) (count : a.length = min n l.length) :
    l.take n = a ∧ l.drop n = b := by
  subst split_at
  rcases le_total n (a ++ b).length with short | long
  · obtain rfl : n = a.length := by omega
    simp
  · have whole : b = [] := List.length_eq_zero_iff.mp (by simp at count long; omega)
    subst whole
    simpa using long

/-- The six bytes of a notice record, one notice after another (09, section 9.2). -/
theorem flatMap_bytes (l : List Notice) :
    l.flatMap Notice.bytes = l.flatMap fun n => [n.kind.code, n.subject, n.d0, n.d1, n.d2, n.d3] := rfl

/-- Settles O12: the oldest records are the first ones of the queue, as many as the clamped maximum allows. -/
theorem fetchNoticesDrainsInOrder : Obligations.FetchNoticesDrainsInOrder := by
  refine ⟨by decide, fun s p max tag spelled taken left split_at count => ⟨?_, ?_⟩⟩
  · have clamp : clampFetch max = Nat.max 1 (Nat.min 10 max.toNat) := rfl
    rw [← clamp] at count
    obtain ⟨first, rest⟩ := take_drop_of_split split_at count
    have act : fetchNotices p max (s.endTransaction p) =
        ((s.endTransaction p).putPort p ((s.endTransaction p).port p |>.drain (clampFetch max)),
          okAnswer (taken.flatMap Notice.bytes)) := by
      simp [fetchNotices, first]
    change takeRequest s p (.fetchNotices p max) (fetchNotices p max) = _
    rw [takeRequest_does spelled act]
    simp [State.reply, State.endTransaction, PortRec.drain, rest, okAnswer, flatMap_bytes]
  · simp [Notice.bytes, Nat.mul_comm]

end Sys2Proof.Machine

/-! SUPPORT. Proofs of statements about transactions and frames (01, 09): O6, O7, O8. -/

namespace Sys2Proof.Machine

/-! ### The fall of SEL (R1, R2) -/

theorem pendingFlag_eq (r : PortRec) : r.pendingFlag = decide (r.queue ≠ []) := by
  cases h : r.queue <;> simp [PortRec.pendingFlag, h]

/-- Settles O6: the frozen frame by the content of the reply slot, and the sixteen outcome codes. -/
theorem transactionFreezesItsFrame : Obligations.TransactionFreezesItsFrame := by
  intro s p r status frame
  refine ⟨fun up free idle => ?_, fun reset => ?_, by decide, fun o => by cases o <;> decide⟩
  · have frozen : r.freeze (s.access.authorityFlag p) = frame := by
      simp only [frame, status, PortRec.freeze]
      cases r.slot <;> simp [statusByte, byte, pendingFlag_eq, AccessUnit.authorityFlag, ReplyCode.code]
    have starts : ¬ (s.nresetLow || r.held || r.txn.isSome) = true := by simp [up, free, idle]
    simp only [exec, execTransactionBegin]
    rw [if_neg starts, ← frozen]
  · have barred : (s.nresetLow || r.held || r.txn.isSome) = true := by rcases reset with e | e <;> simp [e]
    simp only [exec, execTransactionBegin]
    rw [if_pos barred]

/-! ### Clock periods (R1, R2) -/

/-- Eight bits, most significant first, make the byte whose bits they are (R1). -/
theorem packBits_bits : ∀ b0 b1 b2 b3 b4 b5 b6 b7 : Bool,
    let b := packBits [b0, b1, b2, b3, b4, b5, b6, b7]
    [b.getLsbD 7, b.getLsbD 6, b.getLsbD 5, b.getLsbD 4, b.getLsbD 3, b.getLsbD 2, b.getLsbD 1, b.getLsbD 0] =
      [b0, b1, b2, b3, b4, b5, b6, b7] := by
  decide

/-- The bits of a byte in the order they are clocked in. -/
def bitsOf (b : Byte) : List Bool := (List.range 8).map fun j => b.getLsbD (7 - j)

theorem packBits_bitsOf : ∀ b : Byte, packBits (bitsOf b) = b := by decide

/-- A whole byte clocked in stands behind the bytes received before. -/
theorem clock_byte (t : Transaction) (b : Byte) (whole : t.bits = []) :
    (bitsOf b).foldl Transaction.clock t = { t with bytes := t.bytes ++ [b] } := by
  conv_rhs => rw [← packBits_bitsOf b]
  simp [bitsOf, List.range_succ, Transaction.clock, whole]

theorem clock_bytes (t : Transaction) (bs : List Byte) (whole : t.bits = []) :
    (bs.flatMap bitsOf).foldl Transaction.clock t = { t with bytes := t.bytes ++ bs } := by
  induction bs generalizing t with
  | nil => simp
  | cons b bs ih =>
    rw [List.flatMap_cons, List.foldl_append, clock_byte t b whole, ih { t with bytes := t.bytes ++ [b] } whole]
    simp

/-- One clock period of a transaction. -/
theorem exec_clockPeriod {s : State} {p : Port} {t : Transaction} (txn : (s.port p).txn = some t) (sdi : Bool) :
    exec (.clockPeriod p sdi) s =
      .next (s.putPort p { s.port p with txn := some (t.clock sdi), sdo := some (outboundBit t.frame t.clocks) }) := by
  simp [exec, execClockPeriod, txn]

/-- The outcome of a run, after one more CLOCK_PERIOD command. -/
def clockPeriodAfter (p : Port) (o : Host.Outcome State Fault Refusal) (b : Bool) : Host.Outcome State Fault Refusal :=
  match o with
  | .next u => exec (.clockPeriod p b) u
  | o => o

/-- Several clock periods move the transaction on bit by bit. -/
theorem exec_clockPeriods {s : State} {p : Port} {t : Transaction} (txn : (s.port p).txn = some t) (bits : List Bool) :
    ∃ sdo, bits.foldl (clockPeriodAfter p) (.next s) =
      .next (s.putPort p { s.port p with txn := some (bits.foldl Transaction.clock t), sdo := sdo }) := by
  induction bits generalizing s t with
  | nil =>
    refine ⟨(s.port p).sdo, ?_⟩
    rw [List.foldl_nil, List.foldl_nil, ← txn]
    exact congrArg _ (putPort_self s p).symm
  | cons b bits ih =>
    rw [List.foldl_cons, List.foldl_cons, clockPeriodAfter, exec_clockPeriod txn]
    obtain ⟨sdo, run⟩ := ih (s := s.putPort p { s.port p with txn := some (t.clock b), sdo := some (outboundBit t.frame t.clocks) })
      (t := t.clock b) (by rw [port_putPort_same])
    exact ⟨sdo, by rw [run]; simp⟩

/-- Settles O7: one period is the definition of a clock; a string of bytes is so many periods, eight to a byte. -/
theorem clockPeriodsShiftBytes : Obligations.ClockPeriodsShiftBytes := by
  refine ⟨fun s p sdi => ⟨fun idle => by simp [exec, execClockPeriod, idle], fun t txn => ?_⟩, fun s p t bs txn whole => ?_⟩
  · intro n
    refine ⟨t.clock sdi, exec_clockPeriod txn sdi, ?_, fun short => ?_, fun b0 b1 b2 b3 b4 b5 b6 bits => ?_⟩
    · unfold Transaction.clock; split <;> rfl
    · simp [Transaction.clock, short]
    · refine ⟨by simp [Transaction.clock, bits], packBits [b0, b1, b2, b3, b4, b5, b6, sdi], ?_, packBits_bits _ _ _ _ _ _ _ _⟩
      simp [Transaction.clock, bits]
  · obtain ⟨sdo, run⟩ := exec_clockPeriods txn (bs.flatMap bitsOf)
    exact ⟨sdo, by rw [← clock_bytes t bs whole]; exact run⟩

/-! ### Request frames (R3, R4; 09, section 9.3) -/

/-- The 16-bit parameter of two bytes, most significant first (R166). -/
def unwide (hi lo : Byte) : BitVec 16 := BitVec.ofNat 16 (256 * hi.toNat + lo.toNat)

theorem unwide_wide (x : BitVec 16) : ∃ hi lo, wide x = [hi, lo] ∧ unwide hi lo = x := by
  refine ⟨_, _, rfl, BitVec.eq_of_toNat_eq ?_⟩
  have := x.isLt
  simp [unwide, byte]
  omega

/-- The request of port `p` that a code and its parameters name (09, section 9.3). -/
def requestNamed (p : Port) (code : Byte) (params : List Byte) : Option Instr :=
  match code.toNat, params with
  | 0x00, [] => some (.nop p)
  | 0x01, [] => some (.queryPart p)
  | 0x02, [a] => some (.fetchNotices p a)
  | 0x10, [] => some (.claimAuthority p)
  | 0x11, [] => some (.releaseAuthority p)
  | 0x12, [] => some (.seizeAuthority p)
  | 0x13, [a, b] => some (.setSeizeRight p a b)
  | 0x14, [a, b, c, d, e, f, g, h] => some (.setWindow p a b c d e f g h)
  | 0x15, [a, b] => some (.readWindow p a b)
  | 0x20, [a, b, c, d] => some (.routeAdd p a b c d)
  | 0x21, [a, b, c] => some (.routeLevel p a b c)
  | 0x22, [a, b] => some (.routeRemove p a b)
  | 0x23, [a, b] => some (.routeClear p a b)
  | 0x24, [a] => some (.readRoutes p a)
  | 0x25, [a, b, c] => some (.setDest p a b c)
  | 0x26, [a, b] => some (.setTrim p a b)
  | 0x27, [a, b] => some (.readLevels p a b)
  | 0x30, [a, b] => some (.talkRequest p a b)
  | 0x31, [a] => some (.talkRelease p a)
  | 0x32, [a, b, c, d, e, f, g, h] => some (.setFoldback p a b c d e f g h)
  | 0x33, [a] => some (.readFoldback p a)
  | 0x34, [a, b] => some (.talkGroup p a b)
  | 0x35, [a] => some (.releaseGroup p a)
  | 0x36, [a, hi, lo] => some (.setGroup p a (unwide hi lo))
  | 0x40, [a] => some (.identify p a)
  | 0x41, [a] => some (.readAccessory p a)
  | 0x42, [a, b, hi, lo, c, d] => some (.setProfile p a b (unwide hi lo) c d)
  | 0x50, [a] => some (.fieldStart p a)
  | 0x51, [a] => some (.fieldStop p a)
  | 0x52, [a] => some (.fieldPark p a)
  | 0x53, [a] => some (.readField p a)
  | 0x54, [a, b, c, d, e] => some (.setFieldPlan p a b c d e)
  | 0x60, [a] => some (.selectReference p a)
  | 0x61, [] => some (.readReference p)
  | _, _ => none

/-- A request command is read back from its port, its code and its parameters. -/
theorem requestNamed_requestOf {i : Instr} {code : Byte} {params : List Byte} (h : requestOf i = some (code, params)) :
    ∃ p, askingPort i = some p ∧ requestNamed p code params = some i := by
  cases i <;> cases h
  case setGroup p a x =>
    obtain ⟨hi, lo, bytes, back⟩ := unwide_wide x
    refine ⟨p, rfl, ?_⟩
    rw [bytes]
    change some (Instr.setGroup p a (unwide hi lo)) = _
    rw [back]
  case setProfile p a b x c d =>
    obtain ⟨hi, lo, bytes, back⟩ := unwide_wide x
    refine ⟨p, rfl, ?_⟩
    rw [bytes]
    change some (Instr.setProfile p a b (unwide hi lo) c d) = _
    rw [back]
  all_goals exact ⟨_, rfl, rfl⟩

/-- A code and its parameters name one request of a port. -/
theorem requestOf_inj {i j : Instr} {r : Byte × List Byte} (hi : requestOf i = some r) (hj : requestOf j = some r)
    (same : askingPort j = askingPort i) : j = i := by
  obtain ⟨p, asks_i, back_i⟩ := requestNamed_requestOf hi
  obtain ⟨q, asks_j, back_j⟩ := requestNamed_requestOf hj
  obtain rfl : q = p := Option.some.inj (by rw [← asks_i, ← asks_j, same])
  exact Option.some.inj (back_j.symm.trans back_i)

/-- A request command has as many parameters as its code uses (R4; 09, section 9.3). -/
theorem paramCount_of_requestOf {i : Instr} {code : Byte} {ps : List Byte} (h : requestOf i = some (code, ps)) :
    paramCount code = some ps.length := by
  cases i <;> cases h <;> rfl

/-- What the whole frame of a request spells: a request whose code is the frame's and whose parameters it begins with (R4). -/
theorem spells_iff {bytes params : List Byte} {tag tag' code c : Byte} {qs : List Byte} {j : Instr}
    (framed : classify bytes [] = .request tag code params) (hj : requestOf j = some (c, qs)) :
    spells bytes [] j = some tag' ↔ code = c ∧ params.take qs.length = qs ∧ tag = tag' := by
  simp [spells, framed, hj, and_assoc]

/-- Settles O8: the frame is whole, so its verdict names the code and the parameters, and these name one request of a port. -/
theorem requestFramesReadBack : Obligations.RequestFramesReadBack := by
  intro i j tag tag' filler frame code ps hi fits encoded
  have count := paramCount_of_requestOf hi
  have frame_eq : frame = tag :: code :: byte (ps.length + filler.length) :: (ps ++ filler) := by
    simpa [encodeFrame, hi] using encoded.symm
  have length_byte : (byte (ps.length + filler.length)).toNat = ps.length + filler.length := byte_toNat (by omega)
  have framed : classify frame [] = .request tag code (ps ++ filler) := by
    rw [frame_eq]
    exact classify_request (by omega) (by simp [length_byte]) count (by simp)
  refine ⟨(spells_iff framed hi).mpr ⟨rfl, by simp, rfl⟩, fun spelled same => ?_⟩
  cases hj : requestOf j with
  | none => simp [spells, framed, hj] at spelled
  | some r =>
    obtain ⟨c, qs⟩ := r
    obtain ⟨rfl, begins, rfl⟩ := (spells_iff framed hj).mp spelled
    have lengths : qs.length = ps.length := Option.some.inj ((paramCount_of_requestOf hj).symm.trans count)
    obtain rfl : ps = qs := by rw [← begins, lengths, List.take_left]
    exact ⟨requestOf_inj hi hj same, rfl⟩

end Sys2Proof.Machine

/-! SUPPORT. The route store (03): entries, lists and the pool under its operations, and the first half of O55. -/

namespace Sys2Proof.Machine

/-! ### Requests and invariants of a unit -/

/-- An invariant that does not speak of the ports is kept by a request whose act keeps it. -/
theorem takeRequest_keeps {P : State → Prop} {s t : State} {p : Port} {i : Instr} {act : State → State × Answer}
    (ports : ∀ s v, P s → P { s with ports := v }) (acts : ∀ u, P u → P (act u).1) (h : P s)
    (done : takeRequest s p i act = .next t) : P t := by
  rcases takeRequest_cases done with ⟨-, rfl⟩ | ⟨tag, -, rfl⟩
  · exact h
  · exact ports _ _ (acts _ (ports s _ h))

theorem withAuthority_keeps {P : State → Prop} {p : Port} {act : State → State × Answer} (acts : ∀ u, P u → P (act u).1) :
    ∀ u, P u → P (withAuthority p act u).1 := by
  intro u h
  unfold withAuthority
  split <;> [exact acts u h; exact h]

/-! ### Own sources (R41, R49, R50) -/

theorem ownSource_iff {d : Dest} {x : Source} :
    ownSource d = some x ↔ (d.val < 24 ∧ x.val = d.val) ∨ (40 ≤ d.val ∧ x.val + 16 = d.val) := by
  by_cases panel : d.val < 24
  · simp [ownSource, destClass, panel, Fin.ext_iff]
    omega
  · by_cases ear : d.val < 40
    · simp [ownSource, destClass, panel, ear]
    · simp [ownSource, destClass, panel, ear, lineSource, Fin.ext_iff]
      omega

theorem sidetone_own {d : Dest} {x : Source} (panel : d.val < 24) (own : ownSource d = some x) (l : Level) :
    40 ≤ sidetone d x l := by
  unfold sidetone
  split
  · exact le_rfl
  · next h => simpa [panel, own] using h

/-! ### Entries (R43, R45, R54) -/

/-- What a list of destination `d` asks of an entry, but for its not being finished. -/
def Entry.Fits (d : Dest) (y : Entry) : Prop :=
  y.ramp.target = y.goal ∧ y.ramp.cur ≤ Config.unity ∧ (ownSource d = some y.source → d.val < 24 ∧ 40 ≤ y.level)

theorem goal_le_unity (y : Entry) : y.goal ≤ Config.unity := by
  unfold Entry.goal
  split <;> [exact gain_le_unity _; exact Nat.zero_le _]

theorem finished_of_active {y : Entry} (h : y.state = .active) : y.finished = false := by simp [Entry.finished, h]

/-- An entry handed a new target fits wherever its gain word and its level did (R45). -/
theorem retarget_fits {d : Dest} {y : Entry} (cur : y.ramp.cur ≤ Config.unity)
    (own : ownSource d = some y.source → d.val < 24 ∧ 40 ≤ y.level) (frames : Nat) : (y.retarget frames).Fits d :=
  ⟨aim_target _ _ _ _, (aim_cur_le _ _ _ _).trans (max_le cur (goal_le_unity y)), own⟩

theorem revive_fits {d : Dest} {y : Entry} (cur : y.ramp.cur ≤ Config.unity) {level : Level}
    (own : ownSource d = some y.source → d.val < 24 ∧ 40 ≤ level) (frames : Nat) (m : EntryMode) (p : Port) (w : Window) :
    (y.revive frames level m p w).Fits d :=
  retarget_fits (y := { y with state := .active, level := level, mode := m, creator := p, priority := w.priority, tag := w.tag })
    cur own frames

theorem relevel_fits {d : Dest} {y : Entry} (cur : y.ramp.cur ≤ Config.unity) {level : Level}
    (own : ownSource d = some y.source → d.val < 24 ∧ 40 ≤ level) (frames : Nat) :
    ({ y with level := level : Entry }.retarget frames).Fits d :=
  retarget_fits (y := { y with level := level }) cur own frames

theorem fadeOut_fits {d : Dest} {y : Entry} (h : y.Fits d) (frames : Nat) : (y.fadeOut frames).Fits d :=
  retarget_fits (y := { y with state := .fadingOut }) h.2.1 h.2.2 frames

theorem frame_fits {d : Dest} {y : Entry} (h : y.Fits d) : y.frame.Fits d := by
  obtain ⟨target, cur, own⟩ := h
  refine ⟨(advance_target _).trans target, (advance_between y.ramp).2.trans (max_le cur ?_), own⟩
  rw [target]
  exact goal_le_unity y

theorem fits_of_mem {d : Dest} {l : List Entry} (h : ListSound d l) {y : Entry} (mem : y ∈ l) : y.Fits d := by
  obtain ⟨-, -, entries⟩ := h
  obtain ⟨⟨target, cur, -⟩, own⟩ := entries y mem
  exact ⟨target, cur, own⟩

/-! ### Lists (R42) -/

/-- A list rewritten entry by entry, its finished entries freed (R54). -/
theorem listSound_unfinished_map {d : Dest} {l : List Entry} (h : ListSound d l) {f : Entry → Entry}
    (source : ∀ y, (f y).source = y.source) (fits : ∀ y ∈ l, (f y).Fits d) : ListSound d (unfinished (l.map f)) := by
  obtain ⟨length, nodup, -⟩ := h
  have sub : (unfinished (l.map f)).Sublist (l.map f) := List.filter_sublist
  have sources : (l.map f).map Entry.source = l.map Entry.source := by simp [source]
  have length' : (l.map f).length ≤ Config.listCapacity := by rwa [List.length_map]
  have nodup' : ((l.map f).map Entry.source).Nodup := by rw [sources]; exact nodup
  refine ⟨sub.length_le.trans length', nodup'.sublist (sub.map Entry.source), ?_⟩
  intro y mem
  obtain ⟨z, z_mem, rfl⟩ := List.mem_map.mp (sub.subset mem)
  obtain ⟨target, cur, own⟩ := fits z z_mem
  exact ⟨⟨target, cur, finished_of_mem_unfinished mem⟩, own⟩

theorem unfinished_eq_self {l : List Entry} (h : ∀ y ∈ l, y.finished = false) : unfinished l = l := by
  simpa [unfinished] using h

/-- A list rewritten entry by entry, none of them finished. -/
theorem listSound_map {d : Dest} {l : List Entry} (h : ListSound d l) {f : Entry → Entry} (source : ∀ y, (f y).source = y.source)
    (fits : ∀ y ∈ l, (f y).Fits d ∧ (f y).finished = false) : ListSound d (l.map f) := by
  rw [← unfinished_eq_self (l := l.map f) (by simpa using fun y mem => (fits y mem).2)]
  exact listSound_unfinished_map h source fun y mem => (fits y mem).1

/-- A list that some entry joins at its end (R47). -/
theorem listSound_append {d : Dest} {l : List Entry} (h : ListSound d l) {y : Entry} (room : l.length < Config.listCapacity)
    (fresh : ∀ z ∈ l, z.source ≠ y.source) (fits : y.Fits d) (live : y.finished = false) : ListSound d (l ++ [y]) := by
  obtain ⟨length, nodup, entries⟩ := h
  refine ⟨by simpa using room, ?_, ?_⟩
  · rw [List.map_append, List.nodup_append]
    refine ⟨nodup, by simp, ?_⟩
    simpa using fresh
  · intro z mem
    rcases List.mem_append.mp mem with old | new
    · exact entries z old
    · obtain rfl := List.mem_singleton.mp new
      exact ⟨⟨fits.1, fits.2.1, live⟩, fits.2.2⟩

/-- Two entries of one source in a sound list are one entry (R42). -/
theorem eq_of_source_eq {d : Dest} {l : List Entry} (h : ListSound d l) {y z : Entry} (hy : y ∈ l) (hz : z ∈ l)
    (same : y.source = z.source) : y = z :=
  List.inj_on_of_nodup_map h.2.1 hy hz same

/-! ### The pool (R44) -/

/-- Two sums of numbers that differ at one place. -/
theorem sum_finRange_of_ne {n : Nat} {f g : Fin n → Nat} (i : Fin n) (h : ∀ j, j ≠ i → f j = g j) :
    ((List.finRange n).map f).sum + g i = ((List.finRange n).map g).sum + f i := by
  have rest : ∑ j ∈ Finset.univ.erase i, f j = ∑ j ∈ Finset.univ.erase i, g j :=
    Finset.sum_congr rfl fun j mem => h j (Finset.ne_of_mem_erase mem)
  rw [← Fin.sum_univ_def, ← Fin.sum_univ_def, ← Finset.add_sum_erase _ f (Finset.mem_univ i),
    ← Finset.add_sum_erase _ g (Finset.mem_univ i), rest]
  omega

/-- One list replaced: the entries in all lists change by as much as that list (R44). -/
theorem used_put (r : RouteStore) (d : Dest) (x : DestRec) :
    ({ r with dests := put r.dests d x } : RouteStore).used + (r.dests.get d).list.length = r.used + x.list.length := by
  have away : ∀ j, j ≠ d → ((put r.dests d x).get j).list.length = (r.dests.get j).list.length :=
    fun j hj => by rw [get_put_ne _ hj]
  simpa [RouteStore.used] using sum_finRange_of_ne d away

/-- One destination record replaced, and as many entries taken from the pool or given back as its list has grown or shrunk. -/
theorem routeSound_put {r : RouteStore} (h : r.Sound) {d : Dest} {x : DestRec} {free : Nat} (list : ListSound d x.list)
    (pool : free + x.list.length = r.free + (r.dests.get d).list.length) :
    ({ r with dests := put r.dests d x, free := free } : RouteStore).Sound := by
  obtain ⟨sum, lists, trims⟩ := h
  refine ⟨?_, fun j => ?_, trims⟩
  · have := used_put r d x
    change free + ({ r with dests := put r.dests d x } : RouteStore).used = _
    omega
  · dsimp only
    rw [get_put]
    split
    · next same => subst same; exact list
    · exact lists j

/-- One list replaced by a rewritten one whose finished entries return to the pool (R54). -/
theorem settleList_sound {s : State} (h : s.route.Sound) {d : Dest} {f : Entry → Entry} (source : ∀ y, (f y).source = y.source)
    (fits : ∀ y ∈ (s.dest d).list, (f y).Fits d) : (s.settleList d ((s.dest d).list.map f)).route.Sound := by
  refine routeSound_put h (listSound_unfinished_map (h.2.1 d) source fits) ?_
  have := unfinished_length_le ((s.dest d).list.map f)
  rw [List.length_map] at *
  change s.route.free + ((s.dest d).list.length - (unfinished ((s.dest d).list.map f)).length)
    + (unfinished ((s.dest d).list.map f)).length = s.route.free + (s.dest d).list.length
  omega

/-- Every list rewritten entry by entry, the finished entries freed (R54). -/
theorem settleAll_sound {r : RouteStore} (h : r.Sound) {f : DestRec → Entry → Entry}
    (source : ∀ x y, (f x y).source = y.source) (fits : ∀ d, ∀ y ∈ (r.dests.get d).list, (f (r.dests.get d) y).Fits d) :
    (r.settleAll fun x => x.list.map (f x)).Sound := by
  obtain ⟨sum, lists, trims⟩ := h
  refine ⟨?_, fun d => ?_, by simpa using trims⟩
  · rw [settleAll_pool _ _ (fun d => by simp), sum]
  · rw [settleAll_dest]
    exact listSound_unfinished_map (lists d) (source _) (fits d)

theorem putTrim_sound {s : State} (h : s.route.Sound) {x : Source} {r : Ramp}
    (within : 16462 ≤ r.cur ∧ r.cur ≤ 260899 ∧ 16462 ≤ r.target ∧ r.target ≤ 260899) : (s.putTrim x r).route.Sound := by
  obtain ⟨sum, lists, trims⟩ := h
  refine ⟨sum, lists, fun j => ?_⟩
  change _ ≤ ((put s.route.trims x r).get j).cur ∧ _
  dsimp only [State.putTrim]
  rw [get_put]
  split <;> [exact within; exact trims j]

/-! ### The requests -/

theorem findEntry_some {l : List Entry} {x : Source} {y : Entry} (h : findEntry l x = some y) : y ∈ l ∧ y.source = x :=
  ⟨List.mem_of_find?_eq_some h, by simpa using List.find?_some h⟩

theorem findEntry_none {l : List Entry} {x : Source} : findEntry l x = none ↔ ∀ y ∈ l, y.source ≠ x := by
  simp [findEntry]

theorem liveEntry_ok {l : List Entry} {x : Source} {w : Window} {y : Entry} (h : liveEntry l x w = .ok y) :
    y ∈ l ∧ y.source = x ∧ y.state = .active := by
  unfold liveEntry at h
  split at h
  · cases h
  · next z found =>
    obtain ⟨mem, source⟩ := findEntry_some found
    split at h
    · cases h
    · next live =>
      split at h
      · cases h
      · cases h
        exact ⟨mem, source, by cases e : y.state <;> simp_all⟩

theorem routeAddChecked_sound {s : State} (h : s.route.Sound) (p : Port) (w : Window) (d : Dest) (x : Source) (l : Level)
    (m : EntryMode) : (routeAddChecked p w d x l m s).1.route.Sound := by
  have list := h.2.1 d
  unfold routeAddChecked
  dsimp only
  split
  · exact h
  · next other =>
    have own : ownSource d = some x → d.val < 24 ∧ 40 ≤ sidetone d x l := fun own => by
      have panel : d.val < 24 := by
        rcases ownSource_iff.mp own with ⟨lt, -⟩ | ⟨ge, -⟩
        · exact lt
        · exact absurd ⟨ge, own⟩ other
      exact ⟨panel, sidetone_own panel own l⟩
    split
    · next y found =>
      split
      · exact h
      · refine routeSound_put h (listSound_map list (fun y => by dsimp only; split <;> rfl) fun z mem => ?_) (by simp; rfl)
        split
        · next source =>
          exact ⟨revive_fits (fits_of_mem list mem).2.1 (by rw [source]; exact own) _ _ _ _, finished_of_active rfl⟩
        · exact ⟨fits_of_mem list mem, (list.2.2 z mem).1.2.2⟩
    · next missing =>
      split
      · exact h
      · next room =>
        split
        · exact h
        · next spare =>
          refine routeSound_put h (listSound_append list (Nat.not_le.mp room) (findEntry_none.mp missing) ?_ (finished_of_active rfl)) ?_
          · refine ⟨aim_target _ _ _ _, (aim_cur_le _ _ _ _).trans (max_le (Nat.zero_le _) (gain_le_unity _)), own⟩
          · simp only [List.length_append, List.length_singleton, State.dest] at *
            omega

theorem routeAdd_sound {s : State} (h : s.route.Sound) (p : Port) (dest source level mode : Byte) :
    (routeAdd p dest source level mode s).1.route.Sound := by
  unfold routeAdd
  split
  · split <;> [exact h; exact routeAddChecked_sound h _ _ _ _ _ _]
  · exact h

theorem routeLevel_sound {s : State} (h : s.route.Sound) (p : Port) (dest source level : Byte) :
    (routeLevel p dest source level s).1.route.Sound := by
  unfold routeLevel
  split
  · next d x _ _ =>
    split
    · exact h
    · split
      · exact h
      · next y live =>
        have list := h.2.1 d
        obtain ⟨y_mem, y_source, active⟩ := liveEntry_ok live
        refine routeSound_put h (listSound_map list (fun y => by dsimp only; split <;> rfl) fun z mem => ?_) (by simp; rfl)
        split
        · next source =>
          obtain rfl : z = y := eq_of_source_eq list mem y_mem (source.trans y_source.symm)
          obtain ⟨-, cur, own⟩ := fits_of_mem list mem
          refine ⟨relevel_fits cur (fun e => ?_) _, finished_of_active active⟩
          exact ⟨(own e).1, sidetone_own (own e).1 (source ▸ e) _⟩
        · exact ⟨fits_of_mem list mem, (list.2.2 z mem).1.2.2⟩
  · exact h

theorem routeRemove_sound {s : State} (h : s.route.Sound) (p : Port) (dest source : Byte) :
    (routeRemove p dest source s).1.route.Sound := by
  unfold routeRemove
  split
  · next d x _ _ =>
    split
    · exact h
    · split
      · exact h
      · refine settleList_sound h (fun y => by split <;> rfl) fun z mem => ?_
        split <;> [exact fadeOut_fits (fits_of_mem (h.2.1 d) mem) _; exact fits_of_mem (h.2.1 d) mem]
  · exact h

theorem routeClear_sound {s : State} (h : s.route.Sound) (p : Port) (dest filter : Byte) :
    (routeClear p dest filter s).1.route.Sound := by
  unfold routeClear
  split
  · next d f _ _ =>
    split
    · exact h
    · refine settleList_sound h (fun y => by split <;> rfl) fun z mem => ?_
      split <;> [exact fadeOut_fits (fits_of_mem (h.2.1 d) mem) _; exact fits_of_mem (h.2.1 d) mem]
  · exact h

theorem setDest_sound {s : State} (h : s.route.Sound) (p : Port) (dest master fade : Byte) :
    (setDest p dest master fade s).1.route.Sound := by
  unfold setDest
  split
  · next d _ => split <;> [exact h; exact routeSound_put h (h.2.1 d) rfl]
  · exact h

theorem setTrim_sound {s : State} (h : s.route.Sound) (source trim : Byte) : (setTrim source trim s).1.route.Sound := by
  unfold setTrim
  split
  · next x _ =>
    obtain ⟨low, high, -, -⟩ := h.2.2 x
    have cur : ((s.trim x).aim (trimGain (clampTrim trim)) Config.shortRamp).cur = (s.trim x).cur :=
      aim_cur_of_ne _ _ _ (by decide)
    refine putTrim_sound h ?_
    rw [cur, aim_target]
    exact ⟨low, high, trimGain_clampTrim_bounds trim⟩
  · exact h

theorem portReset_sound {r : RouteStore} (h : r.Sound) (p : Port) : (r.portReset p).Sound := by
  refine settleAll_sound (f := fun x y => if y.momentaryOf p then y.fadeOut (fadeFrames x.fade) else y) h
    (fun x y => by split <;> rfl) fun d y mem => ?_
  split <;> [exact fadeOut_fits (fits_of_mem (h.2.1 d) mem) _; exact fits_of_mem (h.2.1 d) mem]

theorem routeSound_trims {r : RouteStore} (h : r.Sound) {v : Vector Ramp 40}
    (within : ∀ x, 16462 ≤ (v.get x).cur ∧ (v.get x).cur ≤ 260899 ∧ 16462 ≤ (v.get x).target ∧ (v.get x).target ≤ 260899) :
    ({ r with trims := v } : RouteStore).Sound := by
  obtain ⟨sum, lists, -⟩ := h
  exact ⟨sum, lists, within⟩

theorem routeFrame_sound {r : RouteStore} (h : r.Sound) : r.frame.Sound := by
  refine routeSound_trims (settleAll_sound (f := fun _ => Entry.frame) h (fun _ _ => rfl)
    fun d y mem => frame_fits (fits_of_mem (h.2.1 d) mem)) fun x => ?_
  have within := h.2.2 x
  have between := advance_between (r.trims.get x)
  rw [get_remap, advance_target]
  omega

theorem routeReset_sound : RouteStore.reset.Sound := by
  have empty : ∀ d, (RouteStore.reset.dests.get d).list = [] := fun d => by simp [RouteStore.reset, DestRec.reset]
  have used : RouteStore.reset.used = 0 := by simp [RouteStore.used, empty]
  refine ⟨by rw [used]; rfl, fun d => ?_, fun x => ?_⟩
  · rw [empty]; exact ⟨by simp, by simp, by simp⟩
  · simp [RouteStore.reset, Ramp.rest, Config.unity]

theorem stepped_route (s : State) : s.stepped.route = s.route.frame := by
  simp only [State.stepped, State.frameGains, State.frameTimers]

/-- What the assertion of PRST on a port that is not held leaves (R19, R39, R59, R115). -/
def State.resetPort (s : State) (p : Port) : State :=
  { s.putPort p PortRec.assertReset with access := s.access.portReset p, route := s.route.portReset p : State }.withdrawPort p

theorem exec_prstAssert (s : State) (p : Port) :
    exec (.prstAssert p) s = if (s.port p).held then .next s else .next (s.resetPort p) := rfl

theorem prstAssert_cases {s t : State} {p : Port} (done : exec (.prstAssert p) s = .next t) :
    (s.port p).held = true ∧ t = s ∨ (s.port p).held = false ∧ t = s.resetPort p := by
  rw [exec_prstAssert] at done
  cases held : (s.port p).held <;> simp only [held] at done
  · exact .inr ⟨rfl, (Host.Outcome.next.inj done).symm⟩
  · exact .inl ⟨rfl, (Host.Outcome.next.inj done).symm⟩

theorem resetPort_route (s : State) (p : Port) : (s.resetPort p).route = s.route.portReset p := by
  rw [State.resetPort, withdrawPort_eq]

theorem chipReset_done {s t : State} (done : exec .chipReset s = .next t) : t = s.chipReset := (Host.Outcome.next.inj done).symm

theorem frame_done {s t : State} {mics programmes : List Sample} (done : exec (.mixFrameEvent mics programmes) s = .next t) :
    t = s.frame mics programmes := (Host.Outcome.next.inj done).symm

theorem chipReset_route (s : State) : s.chipReset.route = RouteStore.reset := by simp only [State.chipReset]

/-- Every command keeps the route store sound; those that write it are gone through one by one. -/
theorem exec_routeSound {i : Instr} {s t : State} (h : s.route.Sound) (done : exec i s = .next t) : t.route.Sound := by
  have ports : ∀ (s : State) v, s.route.Sound → ({ s with ports := v } : State).route.Sound := fun _ _ h => h
  cases i with
  | routeAdd => exact takeRequest_keeps ports (fun u hu => routeAdd_sound hu _ _ _ _ _) h done
  | routeLevel => exact takeRequest_keeps ports (fun u hu => routeLevel_sound hu _ _ _ _) h done
  | routeRemove => exact takeRequest_keeps ports (fun u hu => routeRemove_sound hu _ _ _) h done
  | routeClear => exact takeRequest_keeps ports (fun u hu => routeClear_sound hu _ _ _) h done
  | setDest => exact takeRequest_keeps ports (fun u hu => setDest_sound hu _ _ _ _) h done
  | setTrim => exact takeRequest_keeps ports (withAuthority_keeps fun u hu => setTrim_sound hu _ _) h done
  | prstAssert p =>
    rcases prstAssert_cases done with ⟨-, same⟩ | ⟨-, fresh⟩
    · rwa [same]
    · rw [fresh, resetPort_route]
      exact portReset_sound h p
  | chipReset =>
    rw [chipReset_done done, chipReset_route]
    exact routeReset_sound
  | mixFrameEvent mics programmes =>
    rw [frame_done done, frame_eq, postAll_route, handOn_route, stepped_route]
    exact routeFrame_sound h
  | _ => rw [(exec_kept done).route rfl]; exact h

end Sys2Proof.Machine

/-! SUPPORT. The mix engine (04): the bounds of what a frame hands on, and O55. -/

namespace Sys2Proof.Machine

/-! ### The stages of a frame -/

theorem stepped_mix (s : State) : s.stepped.mix = { s.mix with gates := remap s.mix.gates fun _ g => g.advance } := by
  simp only [State.stepped, State.frameGains, State.frameTimers]

@[simp] theorem stepped_gate (s : State) (e : Earpiece) : s.stepped.gate e = (s.gate e).advance := by
  simp only [State.gate, stepped_mix, get_remap]

theorem handOn_mix (s : State) (o : Vector Output 48) :
    (s.handOn o).mix =
      { s.mix with
        meters := remap s.mix.meters fun d m => m.frame (o.get d),
        panelOut := Vector.ofFn fun n => (o.get (panelDest n)).left,
        earOut := Vector.ofFn fun e => ((o.get (earDest e)).left, (o.get (earDest e)).right),
        unread := if (List.finRange 8).any fun k => (s.line k).unreadLocked then s.mix.unread + 1 else s.mix.unread } := by
  simp only [State.handOn]

@[simp] theorem outputs_get (s : State) (mics programmes : List Sample) (d : Dest) :
    (s.outputs mics programmes).get d = s.outputOf (s.trimmed mics programmes) d := by
  simp [State.outputs]

/-! ### Bounds (R80, R81, R82, R83) -/

theorem ceilingOf_bounds (c : Level) : 0 ≤ ceilingOf c ∧ ceilingOf c ≤ sampleMax := by
  have gain_le := gain_le_unity c
  have bounds := scale_bounds sampleMax (gain c)
  simp only [sampleMax, Config.unity] at gain_le bounds ⊢
  change 0 ≤ scale 8388607 (gain c) ∧ scale 8388607 (gain c) ≤ 8388607
  omega

theorem laneOutput_left_mem (sum : Int) (master : Level) :
    sampleMin ≤ (laneOutput sum master).left ∧ (laneOutput sum master).left ≤ sampleMax := saturate24_mem _

theorem saturate_natAbs_le {c : Int} (h : 0 ≤ c) (x : Int) : (saturate (-c) c x).natAbs ≤ c.toNat := by
  have := saturate_mem (lo := -c) (hi := c) (by omega) x
  omega

/-- Neither channel of an earpiece exceeds the ceiling (R81, R82). -/
theorem earOutput_natAbs_le (sums : Int × Int) (master c : Level) {gate : Nat} (h : gate ≤ 65536) :
    (earOutput sums master (ceilingOf c) gate).left.natAbs ≤ (ceilingOf c).toNat ∧
      (earOutput sums master (ceilingOf c) gate).right.natAbs ≤ (ceilingOf c).toNat :=
  ⟨scale_natAbs_le (saturate_natAbs_le (ceilingOf_bounds c).1 _) h, scale_natAbs_le (saturate_natAbs_le (ceilingOf_bounds c).1 _) h⟩

theorem outputOf_magnitude_le {s : State} (gates : ∀ e, (s.gate e).cur ≤ Config.unity) (t : Vector Int 40) (d : Dest) :
    (s.outputOf t d).magnitude ≤ 8388608 := by
  have lane (sum : Int) (master : Level) : (laneOutput sum master).magnitude ≤ 8388608 := by
    have mem := laneOutput_left_mem sum master
    have right : (laneOutput sum master).right = 0 := rfl
    simp only [Output.magnitude, right, sampleMin, sampleMax] at mem ⊢
    omega
  unfold State.outputOf
  dsimp only
  split
  · next e _ =>
    have bound := (ceilingOf_bounds (s.profileOf e).ceiling).2
    obtain ⟨left, right⟩ := earOutput_natAbs_le (channels (s.profileOf e).ear (listSum t (s.dest d).list)
      ((s.fb e).bedPart t) ((s.fb e).talkPart t)) (s.dest d).master (s.profileOf e).ceiling (gates e)
    simp only [Output.magnitude, sampleMax] at bound ⊢
    omega
  · exact lane _ _
  · exact lane _ _

theorem outputOf_panel (s : State) (t : Vector Int 40) (n : Fin 24) :
    s.outputOf t (panelDest n) = laneOutput (listSum t (s.dest (panelDest n)).list) (s.dest (panelDest n)).master := by
  simp [State.outputOf, destClass, panelDest]

/-! ### The mix engine stays sound -/

theorem advance_cur_le {r : Ramp} {c : Nat} (cur : r.cur ≤ c) (target : r.target ≤ c) : r.advance.cur ≤ c :=
  (advance_between r).2.trans (max_le cur target)

theorem mixSound_gates {m : MixEngine} (h : m.Sound) {v : Vector Ramp 16}
    (gates : ∀ e, (v.get e).cur ≤ Config.unity ∧ (v.get e).target ≤ Config.unity) : ({ m with gates := v } : MixEngine).Sound := by
  obtain ⟨meters, panels, -⟩ := h
  exact ⟨meters, panels, gates⟩

theorem putGate_sound {s : State} (h : s.mix.Sound) {e : Earpiece} {r : Ramp} (cur : r.cur ≤ Config.unity)
    (target : r.target ≤ Config.unity) : (s.putGate e r).mix.Sound := by
  refine mixSound_gates h fun j => ?_
  rw [get_put]
  split <;> [exact ⟨cur, target⟩; exact h.2.2 j]

theorem startProbe_mixSound {s : State} (h : s.mix.Sound) (e : Earpiece) : (s.startProbe e).mix.Sound := by
  unfold State.startProbe
  dsimp only
  split
  · exact putGate_sound (s := s.putAcc e _) h (Nat.zero_le _) (Nat.zero_le _)
  · exact h

theorem completeProbe_mixSound {s : State} (h : s.mix.Sound) (e : Earpiece) : (s.completeProbe e).mix.Sound := by
  unfold State.completeProbe
  dsimp only
  rw [postAll_mix]
  split
  · refine putGate_sound (s := s.putAcc e _) h ?_ ?_
    · exact (aim_cur_le _ _ _ _).trans (max_le (h.2.2 e).1 le_rfl)
    · rw [aim_target]
  · exact h

theorem readLevels_mixSound {s : State} (h : s.mix.Sound) (p : Port) (first count : Byte) :
    (readLevels p first count s).1.mix.Sound := by
  obtain ⟨meters, panels, gates⟩ := h
  unfold readLevels
  split
  · exact ⟨meters, panels, gates⟩
  · refine ⟨fun d => ?_, panels, gates⟩
    dsimp only
    rw [get_remap]
    split <;> [exact Nat.zero_le _; exact meters d]

theorem identify_mixSound {s : State} (h : s.mix.Sound) (p : Port) (earpiece : Byte) :
    (identify p earpiece s).1.mix.Sound := by
  unfold identify
  split
  · exact h
  · split
    · exact h
    · split <;> [exact h; exact startProbe_mixSound h _]

theorem frame_mixSound {s : State} (h : s.mix.Sound) (mics programmes : List Sample) : (s.frame mics programmes).mix.Sound := by
  obtain ⟨meters, -, gates⟩ := h
  have stepped : ∀ e, (s.stepped.gate e).cur ≤ Config.unity ∧ (s.stepped.gate e).target ≤ Config.unity := fun e => by
    rw [stepped_gate, advance_target]
    exact ⟨advance_cur_le (gates e).1 (gates e).2, (gates e).2⟩
  rw [frame_eq, postAll_mix, handOn_mix]
  refine ⟨fun d => ?_, fun n => ?_, stepped⟩
  · dsimp only
    rw [get_remap, outputs_get, stepped_mix]
    exact max_le (meters d) (outputOf_magnitude_le (fun e => (stepped e).1) _ d)
  · dsimp only
    rw [Vector.get_ofFn, outputs_get, outputOf_panel]
    exact laneOutput_left_mem _ _

theorem mixReset_sound : MixEngine.reset.Sound := by
  simp [MixEngine.Sound, MixEngine.reset, Ramp.rest, sampleMin, sampleMax]

theorem chipReset_mix (s : State) : s.chipReset.mix = MixEngine.reset := by simp only [State.chipReset]

/-- Every command keeps the mix engine sound; those that write it are gone through one by one. -/
theorem exec_mixSound {i : Instr} {s t : State} (h : s.mix.Sound) (done : exec i s = .next t) : t.mix.Sound := by
  have ports : ∀ (s : State) v, s.mix.Sound → ({ s with ports := v } : State).mix.Sound := fun _ _ h => h
  cases i with
  | readLevels => exact takeRequest_keeps ports (fun u hu => readLevels_mixSound hu _ _ _) h done
  | identify => exact takeRequest_keeps ports (fun u hu => identify_mixSound hu _ _) h done
  | settleTimerExpiry e =>
    simp only [exec, execSettleTimerExpiry] at done
    split at done
    · split at done <;> obtain rfl := Host.Outcome.next.inj done <;> [exact h; exact completeProbe_mixSound h e]
    · obtain rfl := Host.Outcome.next.inj done; exact h
  | debounceExpiry e =>
    simp only [exec, execDebounceExpiry] at done
    split at done <;> obtain rfl := Host.Outcome.next.inj done <;> [exact startProbe_mixSound h e; exact h]
  | chipReset =>
    rw [chipReset_done done, chipReset_mix]
    exact mixReset_sound
  | mixFrameEvent mics programmes =>
    rw [frame_done done]
    exact frame_mixSound h mics programmes
  | _ => rw [(exec_kept done).mix rfl]; exact h

theorem crystalPeriod_eq (s : State) : s.crystalPeriod = { s with field := s.crystalPeriod.field } := by
  rcases crystalPeriod_cases s with same | ⟨k, -, -, e⟩
  · rw [same]
  · rw [e]; rfl

/-- Settles O55: the store's operations keep list, pool and trims sound; the stages of a frame bound what the mix engine keeps. -/
theorem stepKeepsTheRouteStoreAndMixSound : Obligations.StepKeepsTheRouteStoreAndMixSound := by
  refine ⟨fun s t => ?_, fun s t => ?_⟩
  · refine step_keeps (P := fun s => s.route.Sound) (fun s l h => h) (fun s h => ?_) fun c s t => exec_routeSound
    rw [crystalPeriod_eq]; exact h
  · refine step_keeps (P := fun s => s.mix.Sound) (fun s l h => h) (fun s h => ?_) fun c s t => exec_mixSound
    rw [crystalPeriod_eq]; exact h

end Sys2Proof.Machine

/-! SUPPORT. The frame event, record by record and output by output (R70, R73 to R84, R155): O32, O33 and O34. -/

namespace Sys2Proof.Machine

/-! ### The stepped state -/

@[simp] theorem stepped_trim (s : State) (x : Source) : s.stepped.trim x = (s.trim x).advance := by
  simp only [State.trim, stepped_route, RouteStore.frame, get_remap]

@[simp] theorem stepped_dest (s : State) (d : Dest) :
    s.stepped.dest d = { s.dest d with list := unfinished ((s.dest d).list.map Entry.frame) } := by
  simp only [State.dest, stepped_route, RouteStore.frame, settleAll_dest]

@[simp] theorem stepped_fb (s : State) (e : Earpiece) :
    s.stepped.fb e = { (s.fb e).frame with bed := (s.fb e).bed.advance, slot := (s.fb e).slot.advance } := by
  simp only [State.fb, State.stepped, State.frameGains, State.frameTimers, get_remap, Foldback.frame]

@[simp] theorem stepped_acc (s : State) (e : Earpiece) : s.stepped.acc e = (s.acc e).frame := by
  simp only [State.acc, State.stepped, State.frameGains, State.frameTimers, get_remap]

@[simp] theorem stepped_line (s : State) (k : Line) : s.stepped.line k = (s.line k).frame (s.isActiveLine k) := by
  simp only [State.line, State.stepped, State.frameGains, State.frameTimers, get_remap]

@[simp] theorem stepped_reference (s : State) : s.stepped.reference = s.reference.frame := by
  simp only [State.stepped, State.frameGains, State.frameTimers]

@[simp] theorem stepped_groups (s : State) : s.stepped.foldback.groups = s.foldback.groups := by
  simp only [State.stepped, State.frameGains, State.frameTimers]

@[simp] theorem stepped_arrivals (s : State) : s.stepped.foldback.arrivals = s.foldback.arrivals := by
  simp only [State.stepped, State.frameGains, State.frameTimers]

@[simp] theorem stepped_profiles (s : State) : s.stepped.ident.profiles = s.ident.profiles := by
  simp only [State.stepped, State.frameGains, State.frameTimers]

@[simp] theorem handOn_gate (s : State) (o : Vector Output 48) (e : Earpiece) : (s.handOn o).gate e = s.gate e := by
  simp only [State.gate, handOn_mix]

@[simp] theorem handOn_meter (s : State) (o : Vector Output 48) (d : Dest) :
    (s.handOn o).meter d = (s.meter d).frame (o.get d) := by
  simp only [State.meter, handOn_mix, get_remap]

@[simp] theorem handOn_line (s : State) (o : Vector Output 48) (k : Line) :
    (s.handOn o).line k = (s.line k).afterFrame (o.get (lineDest k)).left := by
  simp only [State.line, State.handOn, get_remap]

@[simp] theorem lineFrame_state (l : LineRec) (active : Bool) : (l.frame active).state = l.state := by
  unfold LineRec.frame; split <;> rfl

@[simp] theorem lineFrame_delivered (l : LineRec) (active : Bool) : (l.frame active).delivered = l.delivered := by
  unfold LineRec.frame; split <;> rfl

/-! ### The state after a frame -/

section Frame
variable (s : State) (mics programmes : List Sample)

/-- The outputs of the frame event on `s`. -/
def State.frameOutputs : Vector Output 48 := s.stepped.outputs mics programmes

/-- The trimmed samples of the frame event on `s` (R74). -/
def State.frameTrimmed : Vector Int 40 := s.stepped.trimmed mics programmes

theorem frame_trim (x : Source) : (s.frame mics programmes).trim x = (s.trim x).advance := by
  rw [frame_eq, postAll_trim, State.trim, handOn_route]; exact stepped_trim s x

theorem frame_dest (d : Dest) :
    (s.frame mics programmes).dest d = { s.dest d with list := unfinished ((s.dest d).list.map Entry.frame) } := by
  rw [frame_eq, postAll_dest, State.dest, handOn_route]; exact stepped_dest s d

theorem frame_route : (s.frame mics programmes).route = s.route.frame := by
  rw [frame_eq, postAll_route, handOn_route, stepped_route]

theorem frame_gate (e : Earpiece) : (s.frame mics programmes).gate e = (s.gate e).advance := by
  rw [frame_eq, postAll_gate, handOn_gate, stepped_gate]

theorem frame_foldback : (s.frame mics programmes).foldback = s.stepped.foldback := by
  rw [frame_eq, postAll_foldback, handOn_foldback]

theorem frame_fb (e : Earpiece) :
    (s.frame mics programmes).fb e = { (s.fb e).frame with bed := (s.fb e).bed.advance, slot := (s.fb e).slot.advance } := by
  rw [State.fb, frame_foldback]; exact stepped_fb s e

theorem frame_ident : (s.frame mics programmes).ident = s.stepped.ident := by
  rw [frame_eq, postAll_ident, handOn_ident]

theorem frame_acc (e : Earpiece) : (s.frame mics programmes).acc e = (s.acc e).frame := by
  rw [State.acc, frame_ident]; exact stepped_acc s e

theorem frame_reference : (s.frame mics programmes).reference = s.reference.frame := by
  rw [frame_eq, postAll_reference, handOn_reference, stepped_reference]

theorem frame_line (k : Line) : (s.frame mics programmes).line k =
    ((s.line k).frame (s.isActiveLine k)).afterFrame ((s.frameOutputs mics programmes).get (lineDest k)).left := by
  rw [frame_eq, postAll_line, handOn_line, stepped_line]; rfl

theorem frame_mix : (s.frame mics programmes).mix = (s.stepped.handOn (s.frameOutputs mics programmes)).mix := by
  rw [frame_eq, postAll_mix]; rfl

theorem frame_meter (d : Dest) :
    (s.frame mics programmes).meter d = (s.meter d).frame ((s.frameOutputs mics programmes).get d) := by
  rw [State.meter, frame_mix, ← State.meter, handOn_meter, State.meter, stepped_mix]; rfl

theorem frame_panelOut (n : Fin 24) :
    (s.frame mics programmes).mix.panelOut.get n = ((s.frameOutputs mics programmes).get (panelDest n)).left := by
  simp only [frame_mix, handOn_mix, Vector.get_ofFn]

theorem frame_earOut (e : Earpiece) : (s.frame mics programmes).mix.earOut.get e =
    (((s.frameOutputs mics programmes).get (earDest e)).left, ((s.frameOutputs mics programmes).get (earDest e)).right) := by
  simp only [frame_mix, handOn_mix, Vector.get_ofFn]

/-! ### Timers and gain words -/

theorem unfinished_eq_filter (l : List Entry) :
    unfinished l = l.filter fun y => decide (¬ (y.state = .fadingOut ∧ y.ramp.cur = 0)) := by
  unfold unfinished
  congr 1
  funext y
  simp only [Entry.finished, Bool.decide_and, decide_not]

theorem routeFrame_pool (r : RouteStore) : r.frame.free + r.frame.used = r.free + r.used := by
  have pool := settleAll_pool r (fun x => x.list.map Entry.frame) fun d => by rw [List.length_map]
  rwa [RouteStore.used] at pool ⊢

theorem frame_timer (k : Line) : ((s.frame mics programmes).line k).timer =
    if s.reference.active = .field k ∧ ((s.line k).state = .centering ∨ (s.line k).state = .locked) then (s.line k).timer
    else (s.line k).timer.map (· - 1) := by
  rw [frame_line]
  simp only [LineRec.afterFrame, LineRec.frame, State.isActiveLine, LineRec.receiving, Bool.and_eq_true, Bool.or_eq_true,
    decide_eq_true_eq]
  split <;> rfl

end Frame

/-- Settles O32: each record of the state after a frame, as the stages of the frame leave it. -/
theorem frameStepsGainsAndTimers : Obligations.FrameStepsGainsAndTimers := by
  intro s t mics programmes done
  obtain rfl : s.frame mics programmes = t := (frame_done done).symm
  have kept := exec_kept done
  refine ⟨frame_trim s _ _, fun d => ?_, ?_, frame_gate s _ _, frame_fb s _ _, frame_acc s _ _, frame_reference s _ _,
    fun k => ?_, kept.access rfl, ?_, ?_, ?_, kept.nreset rfl, kept.pending, fun p => ?_⟩
  · rw [frame_dest]
    exact ⟨rfl, rfl, unfinished_eq_filter _⟩
  · rw [frame_route]
    exact routeFrame_pool s.route
  · rw [← frame_timer s mics programmes k, frame_line]
    unfold LineRec.frame
    split <;> rfl
  · rw [frame_foldback, stepped_groups]
  · rw [frame_foldback, stepped_arrivals]
  · rw [frame_ident, stepped_profiles]
  · rw [frame_eq, postAll_port_txn, postAll_port_slot, postAll_port_sdo, postAll_port_held,
      port_of_ports (handOn_ports _ _), port_of_ports (stepped_ports s)]
    exact ⟨rfl, rfl, rfl, rfl⟩

/-! ### The outputs -/

theorem stepped_raw (s : State) (mics programmes : List Sample) (x : Source) :
    s.stepped.raw mics programmes x = s.raw mics programmes x := by
  simp only [State.raw, LineRec.raw, stepped_line, lineFrame_state, lineFrame_delivered, stepped_mix]

theorem frameTrimmed_get (s : State) (mics programmes : List Sample) (x : Source) :
    (s.frameTrimmed mics programmes).get x = saturate24 (scale (s.raw mics programmes x) (s.trim x).advance.cur) := by
  simp [State.frameTrimmed, State.trimmed, stepped_raw]

theorem frameOutputs_get (s : State) (mics programmes : List Sample) (d : Dest) :
    (s.frameOutputs mics programmes).get d = s.stepped.outputOf (s.frameTrimmed mics programmes) d := outputs_get _ _ _ _

/-- A panel's or field return's output (R77, R79, R80). -/
theorem outputOf_lane (s : State) (t : Vector Int 40) {d : Dest} (h : d.val < 24 ∨ 40 ≤ d.val) :
    s.outputOf t d = laneOutput (listSum t (s.dest d).list) (s.dest d).master := by
  by_cases panel : d.val < 24
  · simp [State.outputOf, destClass, panel]
  · have line : ¬ d.val < 40 := by omega
    simp [State.outputOf, destClass, panel, line]

theorem destClass_earDest (e : Earpiece) : destClass (earDest e) = .earpiece e := by
  have lt : 24 + e.val < 40 := by omega
  simp [destClass, earDest, lt]

/-- An earpiece's output (R78, R79, R81, R82). -/
theorem outputOf_earDest (s : State) (t : Vector Int 40) (e : Earpiece) :
    s.outputOf t (earDest e) =
      earOutput (channels (s.profileOf e).ear (listSum t (s.dest (earDest e)).list) ((s.fb e).bedPart t) ((s.fb e).talkPart t))
        (s.dest (earDest e)).master (ceilingOf (s.profileOf e).ceiling) (s.gate e).cur := by
  simp only [State.outputOf, destClass_earDest]

theorem stepped_profileOf (s : State) (e : Earpiece) : s.stepped.profileOf e = s.profileOf e := by
  simp only [State.profileOf, stepped_profiles, stepped_acc, Accessory.frame]

/-- The stepped state's output of an earpiece, channel by channel (R73, R78). -/
theorem frameOutputs_earDest (s : State) (mics programmes : List Sample) (e : Earpiece) :
    (s.frameOutputs mics programmes).get (earDest e) =
      earOutput
        (channels (s.profileOf e).ear
          (listSum (s.frameTrimmed mics programmes) ((s.frame mics programmes).dest (earDest e)).list)
          (((s.frame mics programmes).fb e).bedPart (s.frameTrimmed mics programmes))
          (((s.frame mics programmes).fb e).talkPart (s.frameTrimmed mics programmes)))
        (s.dest (earDest e)).master (ceilingOf (s.profileOf e).ceiling) ((s.frame mics programmes).gate e).cur := by
  rw [frameOutputs_get, outputOf_earDest, stepped_profileOf, stepped_dest, stepped_fb, stepped_gate, frame_dest, frame_fb,
    frame_gate]

/-- The stepped state's output of a panel or field return (R73). -/
theorem frameOutputs_lane (s : State) (mics programmes : List Sample) {d : Dest} (h : d.val < 24 ∨ 40 ≤ d.val) :
    (s.frameOutputs mics programmes).get d =
      laneOutput (listSum (s.frameTrimmed mics programmes) ((s.frame mics programmes).dest d).list) (s.dest d).master := by
  rw [frameOutputs_get, outputOf_lane _ _ h, stepped_dest, frame_dest]

/-- The samples that the frame's stages share, by the rows of R74: microphones, field lines, programmes. -/
theorem raw_eq (s : State) (mics programmes : List Sample) (x : Source) :
    s.raw mics programmes x =
      if x.val < 24 then (mics.getD x.val 0).toInt
      else if x.val < 32 then
        (if (s.line (Fin.ofNat 8 (x.val - 24))).state = .locked then
          ((s.line (Fin.ofNat 8 (x.val - 24))).delivered.getD
            (Config.undelivered (8 * s.mix.unread + (Fin.ofNat 8 (x.val - 24)).val))).toInt
        else 0)
      else (programmes.getD (x.val - 32) 0).toInt := by
  unfold State.raw LineRec.raw
  split
  · rfl
  · split
    · have lane : (Fin.ofNat 8 (x.val - 24)).val = x.val - 24 := by simp; omega
      rw [lane]
    · rfl

/-- The clip flags that a frame sets are those of the outputs that the limit changed (R83, R84). -/
theorem clip_set (m : Meter) (o : Output) : ((m.frame o).clip && !m.clip) = (o.clipped && !m.clip) := by
  cases h : m.clip <;> simp [Meter.frame, h]

theorem stepped_meter (s : State) (d : Dest) : s.stepped.meter d = s.meter d := by
  rw [State.meter, stepped_mix]; rfl

theorem frame_ports (s : State) (mics programmes : List Sample) :
    (s.frame mics programmes).ports =
      (s.postAll (((List.finRange 48).filter fun d => ((s.frame mics programmes).meter d).clip && !(s.meter d).clip).flatMap
        fun d => s.access.toCovering d { kind := .clip, subject := byte d.val })).ports := by
  have filter : (fun d => ((s.frame mics programmes).meter d).clip && !(s.meter d).clip) =
      fun d => ((s.frameOutputs mics programmes).get d).clipped && !(s.stepped.meter d).clip := by
    funext d
    rw [frame_meter, clip_set, stepped_meter]
  rw [filter, frame_eq, ← stepped_access s]
  exact postAll_ports_congr _ (by simp) (by simp)

/-- Settles O33: the frame's outputs, with the trimmed samples and the stepped gain words written out. -/
theorem frameFormsTheOutputs : Obligations.FrameFormsTheOutputs := by
  intro s mics programmes _ _
  refine ⟨s.frame mics programmes, rfl, ?_⟩
  intro field raw trimmed sum bed talk master lane profile left right limited out24
  have raw_is : ∀ x, raw x = s.raw mics programmes x := fun x => (raw_eq s mics programmes x).symm
  have trimmed_is : ∀ x, trimmed x = (s.frameTrimmed mics programmes).get x := fun x => by
    rw [frameTrimmed_get, ← frame_trim s mics programmes, ← raw_is]; rfl
  have sum_is : ∀ d, sum d = listSum (s.frameTrimmed mics programmes) ((s.frame mics programmes).dest d).list := fun d => by
    simp only [sum, listSum, trimmed_is]
  have bed_is : ∀ e, bed e = ((s.frame mics programmes).fb e).bedPart (s.frameTrimmed mics programmes) := fun e => by
    simp only [bed, trimmed_is, Foldback.bedPart, frame_fb, Foldback.frame]
    cases (s.fb e).bedSource <;> rfl
  have talk_is : ∀ e, talk e = ((s.frame mics programmes).fb e).talkPart (s.frameTrimmed mics programmes) := fun e => by
    simp only [talk, trimmed_is, Foldback.talkPart, frame_fb, Foldback.frame]
    cases (s.fb e).slotSource <;> rfl
  have lane_out : ∀ d, d.val < 24 ∨ 40 ≤ d.val → (s.frameOutputs mics programmes).get d =
      { left := out24 d, right := 0, clipped := decide (out24 d ≠ lane d) } := fun d h => by
    rw [frameOutputs_lane s _ _ h, ← sum_is]; rfl
  have ear_out : ∀ e, (s.frameOutputs mics programmes).get (earDest e) =
      { left := scale (limited e (left e)) ((s.frame mics programmes).gate e).cur,
        right := scale (limited e (right e)) ((s.frame mics programmes).gate e).cur,
        clipped := decide (limited e (left e) ≠ left e) || decide (limited e (right e) ≠ right e) } := fun e => by
    have sides : left e = scale (channels (profile e).ear (sum (earDest e)) (bed e) (talk e)).1 (gain (s.dest (earDest e)).master) ∧
        right e = scale (channels (profile e).ear (sum (earDest e)) (bed e) (talk e)).2 (gain (s.dest (earDest e)).master) := by
      simp only [left, right, master]
      cases (profile e).ear <;> exact ⟨rfl, rfl⟩
    rw [frameOutputs_earDest, ← sum_is, ← bed_is, ← talk_is, sides.1, sides.2]
    rfl
  refine ⟨fun n => ?_, fun k => ?_, fun e => ?_, fun d h => ?_, fun e => ?_, frame_ports s mics programmes⟩
  · rw [frame_panelOut, lane_out _ (.inl n.isLt)]
  · rw [frame_line, lane_out _ (.inr (by simp [lineDest]))]
    simp only [LineRec.afterFrame, LineRec.sends, lineFrame_state]
    cases (s.line k).state <;> rfl
  · rw [frame_earOut, ear_out]
  · rw [frame_meter, lane_out d h]
    simp [Meter.frame, Output.magnitude]
  · rw [frame_meter, frame_earOut, ear_out]
    simp [Meter.frame, Output.magnitude, Bool.or_assoc]

/-! ### Limits (R77, R80, R81, R82) -/

/-- A sum of scaled samples, each within the 24-bit magnitude (R75, R77). -/
theorem listSum_natAbs_le {t : Vector Int 40} (samples : ∀ x, (t.get x).natAbs ≤ 8388608) {l : List Entry}
    (words : ∀ y ∈ l, y.ramp.cur ≤ 65536) : (listSum t l).natAbs ≤ l.length * 8388608 := by
  induction l with
  | nil => simp [listSum]
  | cons y l ih =>
    have head := scale_natAbs_le (samples y.source) (words y (by simp))
    have tail := ih fun z mem => words z (by simp [mem])
    have split : listSum t (y :: l) = scale (t.get y.source) y.ramp.cur + listSum t l := rfl
    rw [split, List.length_cons]
    omega

theorem bedPart_natAbs_le {t : Vector Int 40} (samples : ∀ x, (t.get x).natAbs ≤ 8388608) {f : Foldback}
    (word : f.bed.cur ≤ 65536) : (f.bedPart t).natAbs ≤ 8388608 := by
  unfold Foldback.bedPart
  split <;> [exact scale_natAbs_le (samples _) word; simp]

theorem talkPart_natAbs_le {t : Vector Int 40} (samples : ∀ x, (t.get x).natAbs ≤ 8388608) {f : Foldback}
    (word : f.slot.cur ≤ 65536) : (f.talkPart t).natAbs ≤ 8388608 := by
  unfold Foldback.talkPart
  split <;> [exact scale_natAbs_le (samples _) word; simp]

theorem channels_natAbs_le (m : EarMode) (list bed talk : Int) :
    (channels m list bed talk).1.natAbs ≤ list.natAbs + bed.natAbs + talk.natAbs ∧
      (channels m list bed talk).2.natAbs ≤ list.natAbs + bed.natAbs + talk.natAbs := by
  cases m <;> simp only [channels] <;> omega

/-- A closed gate passes nothing (R82). -/
theorem earOutput_of_closed (sums : Int × Int) (master : Level) (ceiling : Int) :
    (earOutput sums master ceiling 0).left = 0 ∧ (earOutput sums master ceiling 0).right = 0 := by
  simp [earOutput]

theorem frame_earOut_of_closed {s : State} (mics programmes : List Sample) {e : Earpiece}
    (closed : ((s.frame mics programmes).gate e).cur = 0) : (s.frame mics programmes).mix.earOut.get e = (0, 0) := by
  rw [frame_earOut, frameOutputs_earDest, closed, (earOutput_of_closed _ _ _).1, (earOutput_of_closed _ _ _).2]

theorem frame_earOut_natAbs_le {s : State} (sound : s.mix.Sound) (mics programmes : List Sample) (e : Earpiece) :
    ((s.frame mics programmes).mix.earOut.get e).1.natAbs ≤ (ceilingOf (s.profileOf e).ceiling).toNat ∧
      ((s.frame mics programmes).mix.earOut.get e).2.natAbs ≤ (ceilingOf (s.profileOf e).ceiling).toNat := by
  have gate := ((frame_mixSound sound mics programmes).2.2 e).1
  rw [frame_earOut, frameOutputs_earDest]
  exact earOutput_natAbs_le _ _ _ gate

/-- Settles O34: the bound of each component, and what the limit stage and the gate leave of the sums. -/
theorem outputsStayWithinLimits : Obligations.OutputsStayWithinLimits := by
  refine ⟨fun t l f m samples length words bed slot => ?_, fun s t mics programmes sound done => ?_⟩
  · have list := (listSum_natAbs_le samples words).trans (Nat.mul_le_mul_right _ length)
    have := bedPart_natAbs_le samples bed
    have := talkPart_natAbs_le samples slot
    obtain ⟨left, right⟩ := channels_natAbs_le m (listSum t l) (f.bedPart t) (f.talkPart t)
    exact ⟨list, by omega, by omega⟩
  · obtain rfl : s.frame mics programmes = t := (frame_done done).symm
    refine ⟨(frame_mixSound sound mics programmes).2.1, fun k x link => ?_, fun e => ?_⟩
    · rw [frame_line, frameOutputs_lane s _ _ (.inr (by simp [lineDest]))] at link
      simp only [LineRec.afterFrame, Option.ite_none_right_eq_some, Option.some.injEq] at link
      obtain ⟨-, rfl⟩ := link
      exact laneOutput_left_mem _ _
    · obtain ⟨nonneg, below⟩ := ceilingOf_bounds (s.profileOf e).ceiling
      obtain ⟨left, right⟩ := frame_earOut_natAbs_le sound mics programmes e
      intro c
      have c_is : c = ceilingOf (s.profileOf e).ceiling := rfl
      rw [c_is]
      refine ⟨below, by omega, by omega, by omega, by omega, frame_earOut_of_closed mics programmes, fun accessories gone => ?_⟩
      obtain ⟨target, cur⟩ := (accessories.2 e).2.2.2 gone
      refine frame_earOut_of_closed mics programmes ?_
      rw [frame_gate]
      have between := advance_between (s.gate e)
      omega

end Sys2Proof.Machine

/-! SUPPORT. The foldback controller (05): the waiting queue in its order, each operation on a record, and O56. -/

namespace Sys2Proof.Machine

/-! ### The waiting queue (R92, R93) -/

theorem before_iff {a b : TalkRec} :
    a.before b = true ↔ b.priority.toNat < a.priority.toNat ∨ (a.priority.toNat = b.priority.toNat ∧ a.arrival < b.arrival) := by
  simp [TalkRec.before, BitVec.lt_def, BitVec.toNat_inj]

theorem mem_enqueue {t u : TalkRec} {q : List TalkRec} : u ∈ enqueue t q ↔ u = t ∨ u ∈ q := by
  rw [(enqueue_perm t q).mem_iff, List.mem_cons]

/-- A record that ranks before every waiting one goes to the front (R98). -/
theorem enqueue_of_before {t : TalkRec} {q : List TalkRec} (h : ∀ u ∈ q, t.before u = true) : enqueue t q = t :: q := by
  cases q with
  | nil => rfl
  | cons u q => simp [enqueue, h u (by simp)]

/-- A later record placed in an ordered queue leaves it ordered (R93). -/
theorem enqueue_ordered {t : TalkRec} {q : List TalkRec} (ordered : QueueOrdered q) (later : ∀ u ∈ q, u.arrival < t.arrival) :
    QueueOrdered (enqueue t q) := by
  induction q with
  | nil => exact List.pairwise_singleton _ t
  | cons u q ih =>
    obtain ⟨first, rest⟩ := List.pairwise_cons.mp ordered
    unfold enqueue
    split
    · next before =>
      refine List.pairwise_cons.mpr ⟨fun v mem => ?_, ordered⟩
      rcases List.mem_cons.mp mem with rfl | mem
      · exact before
      · have := before_iff.mp before
        have := before_iff.mp (first v mem)
        exact before_iff.mpr (by omega)
    · next after =>
      have after := mt before_iff.mpr after
      have := later u (by simp)
      refine List.pairwise_cons.mpr ⟨fun v mem => ?_, ih rest fun v mem => later v (by simp [mem])⟩
      rcases mem_enqueue.mp mem with rfl | mem
      · exact before_iff.mpr (by omega)
      · exact first v mem

/-- The records of an earpiece, in order and of different ports (R92, R93). -/
def RecordsSound (l : List TalkRec) : Prop := QueueOrdered l ∧ (l.map (·.port)).Nodup

theorem RecordsSound.sublist {l m : List TalkRec} (h : RecordsSound m) (sub : l.Sublist m) : RecordsSound l :=
  ⟨h.1.sublist sub, h.2.sublist (sub.map _)⟩

theorem recordsSound_cons {t : TalkRec} {l : List TalkRec} (h : RecordsSound l) (before : ∀ u ∈ l, t.before u = true)
    (fresh : ∀ u ∈ l, u.port ≠ t.port) : RecordsSound (t :: l) :=
  ⟨List.pairwise_cons.mpr ⟨before, h.1⟩, by
    rw [List.map_cons, List.nodup_cons]
    exact ⟨by simpa using fresh, h.2⟩⟩

theorem recordsSound_enqueue {t : TalkRec} {q : List TalkRec} (h : RecordsSound q) (later : ∀ u ∈ q, u.arrival < t.arrival)
    (fresh : ∀ u ∈ q, u.port ≠ t.port) : RecordsSound (enqueue t q) := by
  refine ⟨enqueue_ordered h.1 later, ?_⟩
  rw [((enqueue_perm t q).map _).nodup_iff, List.map_cons, List.nodup_cons]
  exact ⟨by simpa using fresh, h.2⟩

/-! ### A record of the controller -/

theorem records_of_holder {f : Foldback} {h : TalkRec} (holder : f.holder = some h) : f.records = h :: f.queue := by
  simp [Foldback.records, holder]

theorem records_of_free {f : Foldback} (free : f.holder = none) : f.records = f.queue := by simp [Foldback.records, free]

theorem standing_none {f : Foldback} {p : Port} : f.standing p = none ↔ ∀ u ∈ f.records, u.port ≠ p := by
  unfold Foldback.standing Foldback.records
  cases f.holder with
  | none => simp
  | some h =>
    by_cases same : h.port = p
    · simp [same]
    · simp [same]

theorem standing_holder {f : Foldback} {p : Port} :
    f.standing p = some resultHolder ↔ ∃ h, f.holder = some h ∧ h.port = p := by
  unfold Foldback.standing
  split
  · next same => simpa using same
  · next other =>
    have other' : ¬ ∃ h, f.holder = some h ∧ h.port = p := by simpa using other
    simp only [other', iff_false]
    split <;> simp [resultHolder, resultWaiting]

theorem bedTarget_up (f : Foldback) {st : FoldbackState} (up : st ≠ .idle) : f.bedTarget st = f.bedTarget .talk := by
  simp [Foldback.bedTarget, up]

theorem bedTarget_le_unity (f : Foldback) (st : FoldbackState) : f.bedTarget st ≤ Config.unity := by
  unfold Foldback.bedTarget
  split
  · exact Nat.zero_le _
  · split <;> exact gain_le_unity _

theorem aim_cur_le_unity {r : Ramp} {target : Nat} (cur : r.cur ≤ Config.unity) (word : target ≤ Config.unity) (frames : Nat)
    (z : Bool) : (r.aim target frames z).cur ≤ Config.unity :=
  (aim_cur_le _ _ _ _).trans (max_le cur word)

theorem Foldback.Sound.recordsSound {f : Foldback} (sound : f.Sound) : RecordsSound f.records := by
  obtain ⟨-, -, -, ordered, nodup, -⟩ := sound
  exact ⟨ordered, nodup⟩

theorem Foldback.Sound.room {f : Foldback} (sound : f.Sound) : f.queue.length ≤ Config.waitingCapacity := by
  obtain ⟨-, -, room, -⟩ := sound
  exact room

theorem recordsSound_single {f : Foldback} {t : TalkRec} (holder : f.holder = some t) (queue : f.queue = []) :
    RecordsSound f.records := by
  rw [records_of_holder holder, queue]
  simp [RecordsSound, QueueOrdered]

theorem queue_length_of_empty {f : Foldback} (queue : f.queue = []) : f.queue.length ≤ Config.waitingCapacity := by
  simp [queue]

theorem not_talk_of_free {f : Foldback} (h : f.Sound) (free : f.holder = none) : f.state ≠ .talk := fun e => by
  have := h.1.mpr (.inr e)
  simp [free] at this

/-! ### Grants (R95, R96) -/

theorem grantIdle_sound {f : Foldback} (h : f.Sound) (free : f.holder = none) (t : TalkRec) :
    (f.grantIdle t).Sound := by
  have down := not_talk_of_free h free
  obtain ⟨-, empty, -, -, -, -, -, duck, -, -, closed, bedCur, slotCur⟩ := h
  have queue := empty free
  have duckCur := aim_cur_le_unity bedCur (bedTarget_le_unity f .talk) Config.shortRamp false
  have openCur := aim_cur_le_unity slotCur (gain_le_unity f.interrupt) Config.shortRamp true
  unfold Foldback.grantIdle
  dsimp only
  split
  · have records := recordsSound_single (f := { (f.grantIdle t) with holder := some t, queue := f.queue }) rfl queue
    exact ⟨⟨fun _ => .inr rfl, fun _ => rfl⟩, nofun, queue_length_of_empty queue, records.1, records.2,
      ⟨nofun, by rintro (⟨⟨⟩⟩ | ⟨⟨⟩⟩)⟩, fun _ => rfl, duck, aim_target _ _ _ _, fun _ => ⟨aim_target _ _ _ _, rfl⟩,
      fun off => absurd rfl off, duckCur, openCur⟩
  · have records := recordsSound_single (f := { (f.grantIdle t) with holder := some t, queue := f.queue }) rfl queue
    exact ⟨⟨fun _ => .inl rfl, fun _ => rfl⟩, nofun, queue_length_of_empty queue, records.1, records.2,
      ⟨fun _ => .inl rfl, fun _ => rfl⟩, fun _ => rfl, duck, aim_target _ _ _ _, nofun, fun _ => closed down, duckCur, slotCur⟩

theorem grantHold_sound {f : Foldback} (h : f.Sound) (free : f.holder = none) (hold : f.state = .hold) (t : TalkRec) :
    (f.grantHold t).Sound := by
  obtain ⟨-, empty, -, -, -, -, -, duck, bed, -, -, bedCur, slotCur⟩ := h
  have queue := empty free
  have openCur := aim_cur_le_unity slotCur (gain_le_unity f.interrupt) Config.shortRamp true
  have records := recordsSound_single (f := f.grantHold t) rfl queue
  rw [hold, bedTarget_up f (by decide)] at bed
  exact ⟨⟨fun _ => .inr rfl, fun _ => rfl⟩, nofun, queue_length_of_empty queue, records.1, records.2,
      ⟨nofun, by rintro (⟨⟨⟩⟩ | ⟨⟨⟩⟩)⟩, fun _ => rfl, duck, bed, fun _ => ⟨aim_target _ _ _ _, rfl⟩,
      fun off => absurd rfl off, bedCur, openCur⟩

/-! ### Waiting and preempting (R97, R98, R99) -/

/-- In a sound record the holder ranks before every waiting record (R93). -/
theorem holder_before {f : Foldback} (sound : f.Sound) {h : TalkRec} (holder : f.holder = some h) :
    ∀ u ∈ f.queue, h.before u = true := by
  obtain ⟨ordered, -⟩ := sound.recordsSound
  rw [records_of_holder holder] at ordered
  exact (List.pairwise_cons.mp ordered).1

theorem preemptedQueue_eq {h : TalkRec} {q : List TalkRec} (before : ∀ u ∈ q, h.before u = true) :
    preemptedQueue h q = ((h :: q).take Config.waitingCapacity, (h :: q).drop Config.waitingCapacity) := by
  rw [preemptedQueue, enqueue_of_before before]

theorem preempt_holder (f : Foldback) (e : Earpiece) (h t : TalkRec) : (f.preempt e h t).1.holder = some t := by
  unfold Foldback.preempt; dsimp only; split <;> rfl

theorem preempt_queue (f : Foldback) (e : Earpiece) (h t : TalkRec) :
    (f.preempt e h t).1.queue = (preemptedQueue h f.queue).1 := by
  unfold Foldback.preempt; dsimp only; split <;> rfl

theorem preempt_records {f : Foldback} (sound : f.Sound) {h : TalkRec} (holder : f.holder = some h) (e : Earpiece)
    (t : TalkRec) : (f.preempt e h t).1.records = t :: f.records.take Config.waitingCapacity := by
  rw [records_of_holder (preempt_holder f e h t), preempt_queue, preemptedQueue_eq (holder_before sound holder),
    records_of_holder holder]

theorem preempt_sound {f : Foldback} (sound : f.Sound) {h t : TalkRec} (holder : f.holder = some h) (e : Earpiece)
    (above : h.priority < t.priority) (fresh : ∀ u ∈ f.records, u.port ≠ t.port) : (f.preempt e h t).1.Sound := by
  have records : RecordsSound (f.preempt e h t).1.records := by
    rw [preempt_records sound holder]
    have taken := List.take_sublist Config.waitingCapacity f.records
    refine recordsSound_cons (RecordsSound.sublist sound.recordsSound taken) (fun u mem => ?_)
      fun u mem => fresh u (taken.subset mem)
    have above := BitVec.lt_def.mp above
    have mem := taken.subset mem
    rw [records_of_holder holder] at mem
    rcases List.mem_cons.mp mem with rfl | mem
    · exact before_iff.mpr (.inl above)
    · have := before_iff.mp (holder_before sound holder u mem)
      exact before_iff.mpr (by omega)
  have queue : (f.preempt e h t).1.queue.length ≤ Config.waitingCapacity := by
    rw [preempt_queue]
    exact List.length_take_le _ _
  obtain ⟨up, -, -, -, -, timer, -, duck, bed, -, closed, bedCur, slotCur⟩ := sound
  have openCur := aim_cur_le_unity slotCur (gain_le_unity f.interrupt) Config.shortRamp true
  have up := up.mp (by simp [holder])
  unfold Foldback.preempt at records queue ⊢
  dsimp only at records queue ⊢
  by_cases talk : f.state = .talk
  · rw [if_pos talk] at records queue ⊢
    exact ⟨⟨fun _ => up, fun _ => rfl⟩, nofun, queue, records.1, records.2, timer, fun _ => rfl, duck, bed,
      fun _ => ⟨aim_target _ _ _ _, rfl⟩, fun off => absurd talk off, bedCur, openCur⟩
  · rw [if_neg talk] at records queue ⊢
    exact ⟨⟨fun _ => up, fun _ => rfl⟩, nofun, queue, records.1, records.2, timer, fun _ => rfl, duck, bed,
      fun on => absurd on talk, closed, bedCur, slotCur⟩

/-- A record whose queue alone is replaced. -/
theorem withQueue_sound {f : Foldback} (sound : f.Sound) {q : List TalkRec} (empty : f.holder = none → q = [])
    (room : q.length ≤ Config.waitingCapacity) (records : RecordsSound (f.holder.toList ++ q)) :
    ({ f with queue := q } : Foldback).Sound := by
  obtain ⟨up, -, -, -, -, rest⟩ := sound
  exact ⟨up, empty, room, records.1, records.2, rest⟩

/-- A later record of another port that joins the queue behind a holder of at least its priority (R97). -/
theorem enqueue_sound {f : Foldback} (sound : f.Sound) {h t : TalkRec} (holder : f.holder = some h)
    (below : ¬ h.priority < t.priority) (room : f.queue.length < Config.waitingCapacity)
    (fresh : ∀ u ∈ f.records, u.port ≠ t.port) (later : ∀ u ∈ f.records, u.arrival < t.arrival) :
    ({ f with queue := enqueue t f.queue } : Foldback).Sound := by
  have before := holder_before sound holder
  obtain ⟨ordered, nodup⟩ := sound.recordsSound
  rw [records_of_holder holder] at fresh later ordered nodup
  have waiting : RecordsSound f.queue := RecordsSound.sublist ⟨ordered, nodup⟩ (List.sublist_cons_self _ _)
  have joined := recordsSound_enqueue waiting (fun u mem => later u (by simp [mem])) fun u mem => fresh u (by simp [mem])
  refine withQueue_sound sound (by simp [holder]) (by simpa using room) ?_
  rw [holder]
  refine recordsSound_cons joined (fun u mem => ?_) fun u mem => ?_
  · rcases mem_enqueue.mp mem with rfl | mem
    · have := later h (by simp)
      rw [BitVec.lt_def] at below
      exact before_iff.mpr (by omega)
    · exact before u mem
  · rcases mem_enqueue.mp mem with rfl | mem
    · exact (fresh h (by simp)).symm
    · simp only [List.map_cons, List.nodup_cons, List.mem_map, not_exists, not_and] at nodup
      exact nodup.1 u mem

/-- A TALK_REQUEST on a sound record: the record is sound afterwards, and the only record that may join is the new one. -/
theorem request_sound {f : Foldback} (sound : f.Sound) (e : Earpiece) {t : TalkRec}
    (later : ∀ u ∈ f.records, u.arrival < t.arrival) :
    (f.request e t).1.1.Sound ∧ ∀ u ∈ (f.request e t).1.1.records, u = t ∨ u ∈ f.records := by
  unfold Foldback.request
  split
  · exact ⟨sound, fun u mem => .inr mem⟩
  · next none_standing =>
    have fresh := standing_none.mp none_standing
    split
    · next free =>
      have single {g : Foldback} (holder : g.holder = some t) (queue : g.queue = f.queue) : ∀ u ∈ g.records, u = t ∨ u ∈ f.records := by
        rw [records_of_holder holder, queue, records_of_free free]
        simp
      dsimp only
      split
      · next hold => exact ⟨grantHold_sound sound free hold t, single rfl rfl⟩
      · refine ⟨grantIdle_sound sound free t, single ?_ ?_⟩ <;> unfold Foldback.grantIdle <;> dsimp only <;> split <;> rfl
    · next h holder =>
      split
      · next above =>
        refine ⟨preempt_sound sound holder e above fresh, ?_⟩
        rw [preempt_records sound holder]
        exact fun u mem => (List.mem_cons.mp mem).imp_right fun mem => List.mem_of_mem_take mem
      · next below =>
        split
        · next room =>
          refine ⟨enqueue_sound sound holder below room fresh later, fun u mem => ?_⟩
          simp only [Foldback.records, List.mem_append, mem_enqueue] at mem ⊢
          tauto
        · exact ⟨sound, fun u mem => .inr mem⟩

/-! ### Records that end (R102, R103, R104, R115) -/

theorem holderLeaves_sound {f : Foldback} (sound : f.Sound) (e : Earpiece) (fade : Nat) {h : TalkRec} (holder : f.holder = some h) :
    (f.holderLeaves e fade).1.Sound ∧ (f.holderLeaves e fade).1.records = f.queue := by
  have records : RecordsSound f.queue := by
    refine RecordsSound.sublist sound.recordsSound ?_
    rw [records_of_holder holder]
    exact List.sublist_cons_self _ _
  obtain ⟨up, -, room, -, -, -, -, duck, bed, -, -, bedCur, slotCur⟩ := sound
  have bed : f.bed.target = f.bedTarget .talk := by
    rw [bed]
    rcases up.mp (by simp [holder]) with state | state <;> rw [state]
    exact bedTarget_up f (by decide)
  have held : f.bed.target = f.bedTarget .hold := bed.trans (bedTarget_up f (by decide)).symm
  have openCur := aim_cur_le_unity slotCur (gain_le_unity f.interrupt) Config.shortRamp true
  have closeCur := aim_cur_le_unity (target := 0) slotCur (Nat.zero_le _) Config.shortRamp false
  have restoreCur := aim_cur_le_unity bedCur (bedTarget_le_unity f .idle) fade false
  unfold Foldback.holderLeaves
  split
  · next t rest queue =>
    rw [queue] at records room
    refine ⟨⟨⟨fun _ => .inr rfl, fun _ => rfl⟩, nofun, Nat.le_of_succ_le room, records.1, records.2,
      ⟨nofun, by rintro (⟨⟨⟩⟩ | ⟨⟨⟩⟩)⟩, fun _ => rfl, duck, bed, fun _ => ⟨aim_target _ _ _ _, rfl⟩, fun off => absurd rfl off,
      bedCur, openCur⟩, ?_⟩
    rw [queue]; rfl
  · next queue =>
    rw [queue] at records room
    dsimp only
    split
    · exact ⟨⟨⟨nofun, by rintro (⟨⟨⟩⟩ | ⟨⟨⟩⟩)⟩, fun _ => queue, queue_length_of_empty queue, queue ▸ records.1, queue ▸ records.2,
        ⟨nofun, by rintro (⟨⟨⟩⟩ | ⟨⟨⟩⟩)⟩, nofun, duck, aim_target _ _ _ _, nofun, fun _ => aim_target _ _ _ _, restoreCur,
        closeCur⟩, rfl⟩
    · exact ⟨⟨⟨nofun, by rintro (⟨⟨⟩⟩ | ⟨⟨⟩⟩)⟩, fun _ => queue, queue_length_of_empty queue, queue ▸ records.1, queue ▸ records.2,
        ⟨fun _ => .inr rfl, fun _ => rfl⟩, nofun, duck, held, nofun,
        fun _ => aim_target _ _ _ _, bedCur, closeCur⟩, rfl⟩

theorem withdrawWaiting_sound {f : Foldback} (sound : f.Sound) (p : Port) : (f.withdrawWaiting p).Sound := by
  have sub : (f.queue.filter fun t => !decide (t.port = p)).Sublist f.queue := List.filter_sublist
  refine withQueue_sound sound (fun free => ?_) (sub.length_le.trans sound.room) ?_
  · rw [sound.2.1 free]; rfl
  · exact RecordsSound.sublist sound.recordsSound ((List.append_sublist_append_left _).mpr sub)

/-- A withdrawal takes out the port's record and lets no other one in (R104, R115). -/
theorem withdraw_sound {f : Foldback} (sound : f.Sound) (e : Earpiece) (fade : Nat) (p : Port) :
    (f.withdraw e fade p).1.Sound ∧ ∀ u ∈ (f.withdraw e fade p).1.records, u ∈ f.records ∧ u.port ≠ p := by
  unfold Foldback.withdraw
  split
  · next standing =>
    obtain ⟨h, holder, own⟩ := standing_holder.mp standing
    obtain ⟨left, records⟩ := holderLeaves_sound sound e fade holder
    refine ⟨left, fun u mem => ?_⟩
    obtain ⟨-, nodup⟩ := sound.recordsSound
    rw [records] at mem
    rw [records_of_holder holder, List.map_cons, List.nodup_cons] at nodup
    rw [records_of_holder holder]
    refine ⟨List.mem_cons_of_mem _ mem, fun same => nodup.1 ?_⟩
    rw [own, ← same]
    exact List.mem_map_of_mem mem
  · next standing =>
    refine ⟨withdrawWaiting_sound sound p, fun u mem => ?_⟩
    simp only [Foldback.withdrawWaiting, Foldback.records, List.mem_append, Option.mem_toList, List.mem_filter, Bool.not_eq_true',
      decide_eq_false_iff_not] at mem ⊢
    rcases mem with holder | ⟨mem, other⟩
    · exact ⟨.inl holder, fun same => standing (standing_holder.mpr ⟨u, holder, same⟩)⟩
    · exact ⟨.inr mem, other⟩

/-! ### Settings, timers and frames -/

/-- A record that differs from a sound one in its settings and gain words alone. -/
theorem Foldback.Sound.of_talkers {f g : Foldback} (sound : f.Sound) (state : g.state = f.state) (holder : g.holder = f.holder)
    (queue : g.queue = f.queue) (stateTimer : g.stateTimer.isSome = f.stateTimer.isSome)
    (limitTimer : g.limitTimer.isSome = f.limitTimer.isSome) (slotSource : g.slotSource = f.slotSource)
    (duck : g.nominal ≤ g.duck) (bed : g.bed.target = g.bedTarget g.state)
    (slot : g.slot.target = if g.state = .talk then gain g.interrupt else 0) (bedCur : g.bed.cur ≤ Config.unity)
    (slotCur : g.slot.cur ≤ Config.unity) : g.Sound := by
  obtain ⟨up, empty, room, ordered, nodup, timer, limit, -, -, opened, -, -, -⟩ := sound
  have records : g.records = f.records := by simp [Foldback.records, holder, queue]
  refine ⟨by rwa [holder, state], by rwa [holder, queue], by rwa [queue], by rwa [records], by rwa [records],
    by rwa [stateTimer, state], by rwa [limitTimer, holder], duck, bed, fun on => ⟨?_, ?_⟩, fun off => ?_, bedCur, slotCur⟩
  · rw [slot, if_pos on]
  · rw [slotSource, holder]; exact (opened (state ▸ on)).2
  · rw [slot, if_neg off]

theorem slot_target {f : Foldback} (sound : f.Sound) : f.slot.target = if f.state = .talk then gain f.interrupt else 0 := by
  obtain ⟨-, -, -, -, -, -, -, -, -, opened, closed, -, -⟩ := sound
  split
  · next on => exact (opened on).1
  · next off => exact closed off

/-- R109 for the bed: only the bed's gain word moves, and its target is that of the new settings. -/
theorem rebed_cases (f g : Foldback) (fade : Nat) :
    ∃ r : Ramp, f.rebed g fade = { g with bed := r } ∧ r.target = g.bedTarget g.state ∧
      (g.bed.cur ≤ Config.unity → r.cur ≤ Config.unity) := by
  have word := bedTarget_le_unity g g.state
  have anew (frames : Nat) : ∃ r : Ramp, (if g.bedTarget g.state = g.bed.target then g
      else { g with bed := g.bed.aim (g.bedTarget g.state) frames }) = { g with bed := r } ∧ r.target = g.bedTarget g.state ∧
      (g.bed.cur ≤ Config.unity → r.cur ≤ Config.unity) := by
    split
    · next same => exact ⟨g.bed, rfl, same.symm, id⟩
    · exact ⟨_, rfl, aim_target _ _ _ _, fun cur => aim_cur_le_unity cur word _ _⟩
  unfold Foldback.rebed
  dsimp only
  split
  · next none_bed => exact ⟨_, rfl, by simp [Foldback.bedTarget, none_bed], fun _ => Nat.zero_le _⟩
  · exact ⟨_, rfl, aim_target _ _ _ _, fun cur => aim_cur_le_unity cur word _ _⟩
  · exact anew _

/-- R109 for the slot: in TALK its target is that of the new interrupt code. -/
theorem reslot_cases (f g : Foldback) (slot : g.slot.target = if g.state = .talk then gain f.interrupt else 0) :
    ∃ r : Ramp, f.reslot g = { g with slot := r } ∧ (r.target = if g.state = .talk then gain g.interrupt else 0) ∧
      (g.slot.cur ≤ Config.unity → r.cur ≤ Config.unity) := by
  unfold Foldback.reslot
  split
  · next moved =>
    refine ⟨_, rfl, ?_, fun cur => aim_cur_le_unity cur (gain_le_unity _) _ _⟩
    rw [aim_target, if_pos moved.1]
  · next still =>
    refine ⟨g.slot, rfl, ?_, id⟩
    rw [slot]
    split
    · next on =>
      have same : g.interrupt = f.interrupt := by simpa [on] using still
      rw [same]
    · rfl

/-- SET_FOLDBACK on one record: what it stores, with the bed and the slot that R109 gives. -/
theorem resettle_cases {f : Foldback} (sound : f.Sound) (bed : Option Programme) (nominal duck interrupt : Level) (lead : Fin 21)
    (hold limit : Byte) (fade : Nat) :
    ∃ b r : Ramp, f.reslot (f.rebed (f.settings bed nominal duck interrupt lead hold limit) fade) =
        { f.settings bed nominal duck interrupt lead hold limit with bed := b, slot := r } ∧
      (f.reslot (f.rebed (f.settings bed nominal duck interrupt lead hold limit) fade)).Sound := by
  obtain ⟨b, rebed, target, cur⟩ := rebed_cases f (f.settings bed nominal duck interrupt lead hold limit) fade
  rw [rebed]
  obtain ⟨r, reslot, target', cur'⟩ :=
    reslot_cases f { f.settings bed nominal duck interrupt lead hold limit with bed := b } (slot_target sound)
  refine ⟨b, r, reslot, ?_⟩
  rw [reslot]
  obtain ⟨-, -, -, -, -, -, -, -, -, -, -, bedCur, slotCur⟩ := id sound
  exact sound.of_talkers rfl rfl rfl rfl rfl rfl (le_max_left _ _) target target' (cur bedCur) (cur' slotCur)

theorem tick_isSome (t : Option Nat) : (tick t).isSome = t.isSome := by cases t <;> rfl

theorem fbFrame_sound {f : Foldback} (sound : f.Sound) :
    ({ f.frame with bed := f.bed.advance, slot := f.slot.advance } : Foldback).Sound := by
  have slot := slot_target sound
  have slotWord : f.slot.target ≤ Config.unity := by
    rw [slot]
    split <;> [exact gain_le_unity _; exact Nat.zero_le _]
  obtain ⟨-, -, -, -, -, -, -, duck, bed, -, -, bedCur, slotCur⟩ := id sound
  refine sound.of_talkers rfl rfl rfl (tick_isSome _) (tick_isSome _) rfl duck ?_ ?_ ?_ (advance_cur_le slotCur slotWord)
  · rw [advance_target]; exact bed
  · rw [advance_target]; exact slot
  · exact advance_cur_le bedCur (bed ▸ bedTarget_le_unity f f.state)

/-- LEAD_EXPIRY on one record: TALK, the slot open on the holder's talker (R100). -/
def Foldback.leadEnds (f : Foldback) : Foldback :=
  match f.holder with
  | some t => { f with state := .talk, stateTimer := none : Foldback }.openSlot t.talker
  | none => { f with state := .talk, stateTimer := none : Foldback }

theorem leadEnds_sound {f : Foldback} (sound : f.Sound) (lead : f.state = .lead) :
    f.leadEnds.Sound ∧ f.leadEnds.records = f.records := by
  obtain ⟨up, empty, room, ordered, nodup, -, limit, duck, bed, -, -, bedCur, slotCur⟩ := sound
  have openCur := aim_cur_le_unity slotCur (gain_le_unity f.interrupt) Config.shortRamp true
  have held := up.mpr (.inl lead)
  obtain ⟨t, holder⟩ := Option.isSome_iff_exists.mp held
  rw [lead, bedTarget_up f (by decide)] at bed
  have ends : f.leadEnds = { f with state := .talk, stateTimer := none : Foldback }.openSlot t.talker := by
    simp [Foldback.leadEnds, holder]
  rw [ends]
  exact ⟨⟨⟨fun _ => .inr rfl, fun _ => held⟩, empty, room, ordered, nodup, ⟨nofun, by rintro (⟨⟨⟩⟩ | ⟨⟨⟩⟩)⟩, limit, duck, bed,
    fun _ => ⟨aim_target _ _ _ _, by simp [Foldback.openSlot, holder]⟩, fun off => absurd rfl off, bedCur, openCur⟩, rfl⟩

theorem exec_leadExpiry (e : Earpiece) (s : State) : exec (.leadExpiry e) s =
    if (s.fb e).state = .lead ∧ due (s.fb e).stateTimer then .next (s.putFb e (s.fb e).leadEnds) else .next s := by
  cases holder : (s.fb e).holder <;> simp [exec, execLeadExpiry, Foldback.leadEnds, holder]

/-- HOLD_EXPIRY on one record: IDLE, the bed restored (R102). -/
def Foldback.holdEnds (f : Foldback) (fade : Nat) : Foldback :=
  { f with state := .idle, stateTimer := none : Foldback }.restoreBed fade

theorem exec_holdExpiry (e : Earpiece) (s : State) : exec (.holdExpiry e) s =
    if (s.fb e).state = .hold ∧ due (s.fb e).stateTimer then .next (s.putFb e ((s.fb e).holdEnds (s.fadeLength (earDest e))))
    else .next s := rfl

theorem holdEnds_sound {f : Foldback} (sound : f.Sound) (hold : f.state = .hold) (fade : Nat) :
    (f.holdEnds fade).Sound ∧ (f.holdEnds fade).records = f.records := by
  obtain ⟨up, empty, room, ordered, nodup, -, limit, duck, -, -, closed, bedCur, slotCur⟩ := sound
  have restoreCur := aim_cur_le_unity bedCur (bedTarget_le_unity f .idle) fade false
  have free : ¬ f.holder.isSome = true := fun held => by
    rcases up.mp held with state | state <;> simp [state] at hold
  exact ⟨⟨⟨fun held => absurd held free, by rintro (⟨⟨⟩⟩ | ⟨⟨⟩⟩)⟩, empty, room, ordered, nodup, ⟨nofun, by rintro (⟨⟨⟩⟩ | ⟨⟨⟩⟩)⟩,
    limit, duck, aim_target _ _ _ _, nofun, fun _ => closed (by simp [hold]), restoreCur, slotCur⟩, rfl⟩

theorem fbReset_sound : Foldback.reset.Sound := by
  simp [Foldback.Sound, Foldback.reset, Foldback.records, QueueOrdered, Ramp.rest, Foldback.bedTarget, Config.unity]

end Sys2Proof.Machine

/-! SUPPORT. The foldback controller (05) command by command: its records stay sound, and O56. -/

namespace Sys2Proof.Machine

theorem setTalk_foldback (s : State) (e : Earpiece) (x : TalkStep) : (s.setTalk e x).foldback = (s.putFb e x.1).foldback := by
  rw [setTalk_eq]

/-- One record replaced by a sound one that holds no new talk record. -/
theorem foldbackSound_putFb {s : State} (h : s.foldback.Sound) {e : Earpiece} {g : Foldback} (sound : g.Sound)
    (records : ∀ u ∈ g.records, u ∈ (s.fb e).records) : (s.putFb e g).foldback.Sound := by
  intro j
  change ((put s.foldback.recs e g).get j).Sound ∧ ∀ t ∈ ((put s.foldback.recs e g).get j).records, t.arrival < s.foldback.arrivals
  rw [get_put]
  split
  · exact ⟨sound, fun t mem => (h e).2 t (records t mem)⟩
  · exact h j

theorem foldbackSound_setTalk {s : State} (h : s.foldback.Sound) {e : Earpiece} {x : TalkStep} (sound : x.1.Sound)
    (records : ∀ u ∈ x.1.records, u ∈ (s.fb e).records) : (s.setTalk e x).foldback.Sound := by
  rw [setTalk_foldback]
  exact foldbackSound_putFb h sound records

theorem fb_sound {s : State} (h : s.foldback.Sound) (e : Earpiece) : (s.fb e).Sound := (h e).1

/-! ### The requests -/

/-- The talk record that a TALK_REQUEST of port `p` under the window `w` would make (R92, R94). -/
def State.newTalk (s : State) (p : Port) (w : Window) (talker : Talker) (origin : Option Group) : TalkRec where
  port := p
  talker := talker
  priority := w.priority
  tag := w.tag
  origin := origin
  arrival := s.foldback.arrivals

/-- The foldback controller after a TALK_REQUEST that makes a record: the next arrival number is given out (R92). -/
def State.nextArrival (s : State) : State :=
  { s with foldback := { s.foldback with arrivals := s.foldback.arrivals + 1 } }

/-- TALK_REQUEST on one earpiece, once its window check has passed (R94). -/
theorem talkOn_ok {s : State} {p : Port} {e : Earpiece} {w : Window} (ok : s.access.checkWrite p (earDest e) = .ok w)
    (talker : Talker) (origin : Option Group) :
    s.talkOn p e talker origin =
      if ((s.fb e).request e (s.newTalk p w talker origin)).2.outcome = .ok ∨
          ((s.fb e).request e (s.newTalk p w talker origin)).2.outcome = .queued then
        (s.nextArrival.setTalk e ((s.fb e).request e (s.newTalk p w talker origin)).1,
          ((s.fb e).request e (s.newTalk p w talker origin)).2)
      else (s, ((s.fb e).request e (s.newTalk p w talker origin)).2) := by
  unfold State.talkOn
  rw [ok]
  rfl

theorem talkOn_error {s : State} {p : Port} {e : Earpiece} {a : Answer} (error : s.access.checkWrite p (earDest e) = .error a)
    (talker : Talker) (origin : Option Group) : s.talkOn p e talker origin = (s, a) := by
  unfold State.talkOn
  rw [error]

theorem talkOn_sound {s : State} (h : s.foldback.Sound) (p : Port) (e : Earpiece) (talker : Talker) (origin : Option Group) :
    (s.talkOn p e talker origin).1.foldback.Sound := by
  cases check : s.access.checkWrite p (earDest e) with
  | error a => rw [talkOn_error check]; exact h
  | ok w =>
    obtain ⟨sound, arrivals⟩ := h e
    obtain ⟨after, records⟩ := request_sound sound e (t := s.newTalk p w talker origin) arrivals
    rw [talkOn_ok check]
    split
    · intro j
      rw [setTalk_foldback]
      change ((put s.foldback.recs e _).get j).Sound ∧
        ∀ t ∈ ((put s.foldback.recs e _).get j).records, t.arrival < s.foldback.arrivals + 1
      rw [get_put]
      split
      · refine ⟨after, fun u mem => ?_⟩
        rcases records u mem with rfl | old
        · exact Nat.lt_succ_self _
        · exact Nat.lt_succ_of_lt (arrivals u old)
      · exact ⟨(h j).1, fun u mem => Nat.lt_succ_of_lt ((h j).2 u mem)⟩
    · exact h

theorem releaseOn_sound {s : State} (h : s.foldback.Sound) (p : Port) (e : Earpiece) : (s.releaseOn p e).1.foldback.Sound := by
  unfold State.releaseOn
  split
  · exact h
  · split
    · exact h
    · obtain ⟨after, records⟩ := withdraw_sound (fb_sound h e) e (s.fadeLength (earDest e)) p
      exact foldbackSound_setTalk h after fun u mem => (records u mem).1

/-- A group request keeps what its single requests keep (R113, R114). -/
theorem visit_keeps {P : State → Prop} {act : State → Earpiece → State × Answer} (acts : ∀ s e, P s → P (act s e).1)
    (l : List Earpiece) {s : State} (h : P s) : P (visit act l s).1 := by
  induction l generalizing s with
  | nil => exact h
  | cons e l ih => exact ih (acts s e h)

theorem talkRequest_sound {s : State} (h : s.foldback.Sound) (p : Port) (earpiece talker : Byte) :
    (talkRequest p earpiece talker s).1.foldback.Sound := by
  unfold talkRequest
  split <;> [exact talkOn_sound h _ _ _ _; exact h]

theorem talkRelease_sound {s : State} (h : s.foldback.Sound) (p : Port) (earpiece : Byte) :
    (talkRelease p earpiece s).1.foldback.Sound := by
  unfold talkRelease
  split <;> [exact releaseOn_sound h _ _; exact h]

theorem talkGroup_sound {s : State} (h : s.foldback.Sound) (p : Port) (group talker : Byte) :
    (talkGroup p group talker s).1.foldback.Sound := by
  unfold talkGroup
  split
  · exact visit_keeps (P := fun s => s.foldback.Sound) (fun u e hu => talkOn_sound hu _ _ _ _) _ h
  · exact h

theorem releaseGroup_sound {s : State} (h : s.foldback.Sound) (p : Port) (group : Byte) :
    (releaseGroup p group s).1.foldback.Sound := by
  unfold releaseGroup
  split
  · exact visit_keeps (P := fun s => s.foldback.Sound) (fun u e hu => releaseOn_sound hu _ _) _ h
  · exact h

theorem setGroup_sound {s : State} (h : s.foldback.Sound) (group : Byte) (members : BitVec 16) :
    (setGroup group members s).1.foldback.Sound := by
  unfold setGroup
  split <;> exact h

theorem setFoldback_sound {s : State} (h : s.foldback.Sound) (p : Port)
    (earpiece bed nominal duck interrupt lead hold limit : Byte) :
    (setFoldback p earpiece bed nominal duck interrupt lead hold limit s).1.foldback.Sound := by
  unfold setFoldback
  split
  · next e b _ _ =>
    split
    · exact h
    · obtain ⟨b, r, same, sound⟩ := resettle_cases (fb_sound h e) b (clampLevel nominal) (clampLevel duck) (clampLevel interrupt)
        (clampLead lead) hold limit (s.fadeLength (earDest e))
      exact foldbackSound_putFb h sound (by rw [same]; exact fun u mem => mem)
  · exact h

/-! ### Resets, expiries and frames -/

theorem withdrawPort_sound {s : State} (h : s.foldback.Sound) (p : Port) : (s.withdrawPort p).foldback.Sound := by
  unfold State.withdrawPort
  generalize List.finRange 16 = l
  induction l generalizing s with
  | nil => exact h
  | cons e l ih =>
    rw [List.foldl_cons]
    refine ih ?_
    split
    · exact h
    · obtain ⟨after, records⟩ := withdraw_sound (fb_sound h e) e (s.fadeLength (earDest e)) p
      exact foldbackSound_setTalk h after fun u mem => (records u mem).1

theorem resetPort_foldback {P : FoldbackUnit → Prop} {s : State} {p : Port}
    (withdraw : ∀ u : State, u.foldback = s.foldback → P (u.withdrawPort p).foldback) : P (s.resetPort p).foldback := by
  rw [State.resetPort]
  exact withdraw _ rfl

theorem foldbackReset_sound : FoldbackUnit.reset.Sound := by
  intro e
  have rec_is : FoldbackUnit.reset.recs.get e = Foldback.reset := by simp [FoldbackUnit.reset]
  rw [rec_is]
  exact ⟨fbReset_sound, by simp [Foldback.reset, Foldback.records]⟩

theorem chipReset_foldback (s : State) : s.chipReset.foldback = FoldbackUnit.reset := by simp only [State.chipReset]

theorem frame_foldbackSound {s : State} (h : s.foldback.Sound) (mics programmes : List Sample) :
    (s.frame mics programmes).foldback.Sound := by
  intro e
  have arrivals : (s.frame mics programmes).foldback.arrivals = s.foldback.arrivals := by rw [frame_foldback, stepped_arrivals]
  rw [arrivals, ← State.fb, frame_fb]
  exact ⟨fbFrame_sound (h e).1, (h e).2⟩

theorem exec_limitExpiry (e : Earpiece) (s : State) : exec (.limitExpiry e) s =
    match (s.fb e).holder with
    | some t =>
      if due (s.fb e).limitTimer then
        .next (s.setTalk e (((s.fb e).holderLeaves e (s.fadeLength (earDest e))).1,
          talkEnded e t reasonLimit :: ((s.fb e).holderLeaves e (s.fadeLength (earDest e))).2))
      else .next s
    | none => .next s := rfl

/-- Every command keeps every foldback record sound; those that write one are gone through one by one. -/
theorem exec_foldbackSound {i : Instr} {s t : State} (h : s.foldback.Sound) (done : exec i s = .next t) : t.foldback.Sound := by
  have ports : ∀ (s : State) v, s.foldback.Sound → ({ s with ports := v } : State).foldback.Sound := fun _ _ h => h
  cases i with
  | talkRequest => exact takeRequest_keeps ports (fun u hu => talkRequest_sound hu _ _ _) h done
  | talkRelease => exact takeRequest_keeps ports (fun u hu => talkRelease_sound hu _ _) h done
  | talkGroup => exact takeRequest_keeps ports (fun u hu => talkGroup_sound hu _ _ _) h done
  | releaseGroup => exact takeRequest_keeps ports (fun u hu => releaseGroup_sound hu _ _) h done
  | setGroup => exact takeRequest_keeps ports (withAuthority_keeps fun u hu => setGroup_sound hu _ _) h done
  | setFoldback => exact takeRequest_keeps ports (fun u hu => setFoldback_sound hu _ _ _ _ _ _ _ _ _) h done
  | leadExpiry e =>
    rw [exec_leadExpiry] at done
    split at done <;> obtain rfl := Host.Outcome.next.inj done
    · next lead =>
      obtain ⟨sound, records⟩ := leadEnds_sound (fb_sound h e) lead.1
      exact foldbackSound_putFb h sound (by rw [records]; exact fun u mem => mem)
    · exact h
  | limitExpiry e =>
    rw [exec_limitExpiry] at done
    split at done
    · next t holder =>
      split at done <;> obtain rfl := Host.Outcome.next.inj done
      · obtain ⟨sound, records⟩ := holderLeaves_sound (fb_sound h e) e (s.fadeLength (earDest e)) holder
        refine foldbackSound_setTalk h sound ?_
        rw [records, records_of_holder holder]
        exact fun u mem => List.mem_cons_of_mem _ mem
      · exact h
    · obtain rfl := Host.Outcome.next.inj done; exact h
  | holdExpiry e =>
    rw [exec_holdExpiry] at done
    split at done <;> obtain rfl := Host.Outcome.next.inj done
    · next hold =>
      obtain ⟨sound, records⟩ := holdEnds_sound (fb_sound h e) hold.1 (s.fadeLength (earDest e))
      exact foldbackSound_putFb h sound (by rw [records]; exact fun u mem => mem)
    · exact h
  | prstAssert p =>
    rcases prstAssert_cases done with ⟨-, same⟩ | ⟨-, fresh⟩
    · rwa [same]
    · rw [fresh]
      exact resetPort_foldback fun u e => withdrawPort_sound (e ▸ h) p
  | chipReset =>
    rw [chipReset_done done, chipReset_foldback]
    exact foldbackReset_sound
  | mixFrameEvent mics programmes =>
    rw [frame_done done]
    exact frame_foldbackSound h mics programmes
  | _ => rw [(exec_kept done).foldback rfl]; exact h

theorem step_foldbackSound {s t : State} (h : s.foldback.Sound) (run : step s = .next t) : t.foldback.Sound := by
  refine step_keeps (P := fun s => s.foldback.Sound) (fun s l h => h) (fun s h => ?_) (fun c s t => exec_foldbackSound) h run
  rw [crystalPeriod_eq]; exact h

/-- Settles O56: each operation on a record keeps it sound; a new record takes an arrival number above all others. -/
theorem stepKeepsTheFoldbackUnitSound : Obligations.StepKeepsTheFoldbackUnitSound := fun _ _ => step_foldbackSound

end Sys2Proof.Machine

/-! SUPPORT. Port reset (01, section 1.8), owner by owner, and O5. -/

namespace Sys2Proof.Machine

/-! ### The foldback controller's part (R115) -/

/-- What a port reset of `p` makes of one record, with the notices it raises (R115). -/
def Foldback.withdrawn (f : Foldback) (e : Earpiece) (fade : Nat) (p : Port) : TalkStep :=
  match f.standing p with
  | none => (f, [])
  | some _ => f.withdraw e fade p

/-- The withdrawal on earpiece `e`. -/
def State.withdrawOn (s : State) (p : Port) (e : Earpiece) : State :=
  s.setTalk e ((s.fb e).withdrawn e (s.fadeLength (earDest e)) p)

@[simp] theorem putFb_self (s : State) (e : Earpiece) : s.putFb e (s.fb e) = s := by
  simp only [State.putFb, State.fb, put_get]

theorem withdrawPort_eq_foldl (s : State) (p : Port) :
    s.withdrawPort p = (List.finRange 16).foldl (fun s e => s.withdrawOn p e) s := by
  unfold State.withdrawPort
  congr 1
  funext u e
  cases standing : (u.fb e).standing p with
  | none => simp [State.withdrawOn, Foldback.withdrawn, standing, State.setTalk]
  | some r => simp [State.withdrawOn, Foldback.withdrawn, standing]

theorem withdrawOn_route (s : State) (p : Port) (e : Earpiece) : (s.withdrawOn p e).route = s.route := by
  rw [State.withdrawOn, setTalk_eq]

theorem withdrawOn_fadeLength (s : State) (p : Port) (e : Earpiece) (d : Dest) :
    (s.withdrawOn p e).fadeLength d = s.fadeLength d := by
  rw [State.fadeLength, State.dest, withdrawOn_route]; rfl

theorem withdrawOn_fb (s : State) (p : Port) (e j : Earpiece) :
    (s.withdrawOn p e).fb j = if j = e then ((s.fb e).withdrawn e (s.fadeLength (earDest e)) p).1 else s.fb j := by
  rw [State.withdrawOn, State.fb, setTalk_foldback]
  exact fb_putFb s e j _

/-- Withdrawals on different earpieces do not see each other. -/
theorem foldl_withdrawOn {l : List Earpiece} (nodup : l.Nodup) (s : State) (p : Port) :
    (∀ e, (l.foldl (fun s e => s.withdrawOn p e) s).fb e =
      if e ∈ l then ((s.fb e).withdrawn e (s.fadeLength (earDest e)) p).1 else s.fb e) ∧
    (l.foldl (fun s e => s.withdrawOn p e) s).ports =
      (s.postAll (l.flatMap fun e => ((s.fb e).withdrawn e (s.fadeLength (earDest e)) p).2)).ports := by
  induction l generalizing s with
  | nil => simp
  | cons e l ih =>
    obtain ⟨new, nodup⟩ := List.nodup_cons.mp nodup
    obtain ⟨records, ports⟩ := ih nodup (s.withdrawOn p e)
    have away : ∀ j ∈ l, (s.withdrawOn p e).fb j = s.fb j := fun j mem => by
      rw [withdrawOn_fb, if_neg (by rintro rfl; exact new mem)]
    simp only [List.foldl_cons]
    refine ⟨fun j => ?_, ?_⟩
    · rw [records j, withdrawOn_fb, withdrawOn_fadeLength]
      by_cases same : j = e
      · subst same; simp [new]
      · simp [same]
    · have posts : (l.flatMap fun j => (((s.withdrawOn p e).fb j).withdrawn j ((s.withdrawOn p e).fadeLength (earDest j)) p).2) =
          l.flatMap fun j => ((s.fb j).withdrawn j (s.fadeLength (earDest j)) p).2 :=
        List.flatMap_congr fun j mem => by rw [away j mem, withdrawOn_fadeLength]
      rw [ports, posts, List.flatMap_cons, postAll_append]
      refine postAll_ports_congr _ ?_ ?_
      · exact postAll_ports_congr _ rfl rfl
      · rw [State.withdrawOn, setTalk_eq, postAll_nresetLow]

theorem withdrawPort_fb (s : State) (p : Port) (e : Earpiece) :
    (s.withdrawPort p).fb e = ((s.fb e).withdrawn e (s.fadeLength (earDest e)) p).1 := by
  rw [withdrawPort_eq_foldl, (foldl_withdrawOn (List.nodup_finRange 16) s p).1 e, if_pos (List.mem_finRange e)]

theorem withdrawPort_ports (s : State) (p : Port) : (s.withdrawPort p).ports =
    (s.postAll ((List.finRange 16).flatMap fun e => ((s.fb e).withdrawn e (s.fadeLength (earDest e)) p).2)).ports := by
  rw [withdrawPort_eq_foldl, (foldl_withdrawOn (List.nodup_finRange 16) s p).2]

/-- Withdrawing a holder before a waiting record raises TALK_GRANTED to that record's port (R103, R115). -/
theorem withdrawn_posts_granted {f : Foldback} {h x : TalkRec} {rest : List TalkRec} {p : Port} (holder : f.holder = some h)
    (queue : f.queue = x :: rest) (own : h.port = p) (e : Earpiece) (fade : Nat) :
    (f.withdrawn e fade p).2 = [talkGranted e x] := by
  have standing : f.standing p = some resultHolder := standing_holder.mpr ⟨h, holder, own⟩
  simp [Foldback.withdrawn, Foldback.withdraw, standing, Foldback.holderLeaves, queue]

/-- No other withdrawal raises a notice (R103, R104). -/
theorem withdrawn_posts_silent {f : Foldback} {p : Port} (h : (∀ h, f.holder = some h → h.port ≠ p) ∨ f.queue = []) (e : Earpiece)
    (fade : Nat) : (f.withdrawn e fade p).2 = [] := by
  unfold Foldback.withdrawn
  split
  · rfl
  · unfold Foldback.withdraw
    split
    · next standing =>
      obtain ⟨t, holder, own⟩ := standing_holder.mp standing
      have queue := h.resolve_left fun other => other t holder own
      simp only [Foldback.holderLeaves, queue]
      split <;> rfl
    · rfl

/-! ### The whole port reset (R19, R20, R39, R59) -/

/-- Deposits on a port depend on that port and on NRESET alone. -/
theorem postAll_port_congr {s t : State} (xs : List Post) {q : Port} (port : s.port q = t.port q)
    (nreset : s.nresetLow = t.nresetLow) : (s.postAll xs).port q = (t.postAll xs).port q := by
  cases low : t.nresetLow with
  | false => rw [postAll_port _ _ _ (nreset.trans low), postAll_port _ _ _ low, port]
  | true => rw [postAll_of_nresetLow _ _ (nreset.trans low), postAll_of_nresetLow _ _ low, port]

/-- The part as PRST leaves it before the talk records are withdrawn. -/
def State.disowned (s : State) (p : Port) : State :=
  { s.putPort p PortRec.assertReset with access := s.access.portReset p, route := s.route.portReset p }

theorem resetPort_eq (s : State) (p : Port) : s.resetPort p = (s.disowned p).withdrawPort p := rfl

theorem disowned_port_ne (s : State) {p q : Port} (h : q ≠ p) : (s.disowned p).port q = s.port q := by
  change (s.putPort p _).port q = s.port q
  rw [port_putPort, if_neg h]

theorem portReset_dest (r : RouteStore) (p : Port) (d : Dest) : (r.portReset p).dests.get d =
    { r.dests.get d with list := unfinished (fadeMomentary p (fadeFrames (r.dests.get d).fade) (r.dests.get d).list) } :=
  settleAll_dest r _ d

theorem disowned_fadeLength (s : State) (p : Port) (d : Dest) : (s.disowned p).fadeLength d = s.fadeLength d := by
  change fadeFrames ((s.route.portReset p).dests.get d).fade = _
  rw [portReset_dest]; rfl

theorem resetPort_fb (s : State) (p : Port) (e : Earpiece) :
    (s.resetPort p).fb e = ((s.fb e).withdrawn e (s.fadeLength (earDest e)) p).1 := by
  rw [resetPort_eq, withdrawPort_fb, disowned_fadeLength]; rfl

theorem resetPort_ports (s : State) (p : Port) : (s.resetPort p).ports =
    ((s.disowned p).postAll ((List.finRange 16).flatMap fun e =>
      ((s.fb e).withdrawn e (s.fadeLength (earDest e)) p).2)).ports := by
  rw [resetPort_eq, withdrawPort_ports]
  simp only [disowned_fadeLength]
  rfl

theorem resetPort_port_same (s : State) (p : Port) : (s.resetPort p).port p = PortRec.assertReset := by
  have own : (s.disowned p).port p = PortRec.assertReset := port_putPort_same s p _
  rw [port_of_ports (resetPort_ports s p), postAll_port_of_held _ _ (by rw [own]; rfl), own]

theorem resetPort_port_ne (s : State) {p q : Port} (h : q ≠ p) : (s.resetPort p).port q =
    (s.postAll ((List.finRange 16).flatMap fun e => ((s.fb e).withdrawn e (s.fadeLength (earDest e)) p).2)).port q := by
  rw [port_of_ports (resetPort_ports s p)]
  exact postAll_port_congr _ (disowned_port_ne s h) rfl

/-- A port reset leaves every unit but the owners' as it was (R20). -/
theorem resetPort_kept (s : State) (p : Port) :
    (s.resetPort p).access = s.access.portReset p ∧ (s.resetPort p).foldback.groups = s.foldback.groups ∧
      (s.resetPort p).foldback.arrivals = s.foldback.arrivals ∧ (s.resetPort p).mix = s.mix ∧ (s.resetPort p).ident = s.ident ∧
      (s.resetPort p).field = s.field ∧ (s.resetPort p).reference = s.reference ∧
      (s.resetPort p).nresetLow = s.nresetLow ∧ (s.resetPort p).pending = s.pending := by
  rw [resetPort_eq, withdrawPort_eq]
  exact ⟨rfl, rfl, rfl, rfl, rfl, rfl, rfl, rfl, rfl⟩

/-- The entries that a port reset fades are the ACTIVE MOMENTARY ones of its port (R59). -/
theorem fadeMomentary_eq (p : Port) (frames : Nat) (l : List Entry) : fadeMomentary p frames l =
    l.map fun y => if y.state = .active ∧ y.mode = .momentary ∧ y.creator = p then
      { y with state := .fadingOut, ramp := y.ramp.aim 0 frames } else y := by
  unfold fadeMomentary
  congr 1
  funext y
  simp only [Entry.momentaryOf, Bool.and_eq_true, decide_eq_true_eq, and_assoc]
  rfl

/-- Settles O5: each owner's part of a port reset; the withdrawals on different earpieces do not see each other. -/
theorem portResetReachesEveryOwner : Obligations.PortResetReachesEveryOwner := by
  refine ⟨fun s p free => ⟨s.resetPort p, ?_, resetPort_port_same s p, fun q hq => ?_, ?_, ?_, fun d => ?_, ?_, ?_, fun e => ?_,
    (resetPort_kept s p).2⟩, fun s p held => ?_, fun s p => rfl⟩
  · simp [exec_prstAssert, free]
  · rw [resetPort_port_ne s hq, postAll_port_txn, postAll_port_sdo, postAll_port_slot, postAll_port_held]
    exact ⟨rfl, rfl, rfl, rfl⟩
  · intro granted q hq
    rw [resetPort_port_ne s hq]
    congr 2
    refine List.flatMap_congr fun e _ => ?_
    cases holder : (s.fb e).holder with
    | none => exact withdrawn_posts_silent (.inl (by simp [holder])) _ _
    | some h =>
      cases queue : (s.fb e).queue with
      | nil => exact withdrawn_posts_silent (.inr queue) _ _
      | cons x rest =>
        by_cases own : h.port = p
        · simp only [own, if_true]
          exact withdrawn_posts_granted holder queue own _ _
        · simp only [own, if_false]
          exact withdrawn_posts_silent (.inl fun t same => by
            obtain rfl := Option.some.inj (holder.symm.trans same); exact own) _ _
  · rw [(resetPort_kept s p).1]
    unfold AccessUnit.portReset
    split <;> rfl
  · rw [State.dest, resetPort_route, portReset_dest]
    exact ⟨rfl, rfl, by rw [unfinished_eq_filter, fadeMomentary_eq]; rfl⟩
  · rw [resetPort_route, portReset_pool]
  · rw [resetPort_route]; exact settleAll_trims _ _
  · rw [resetPort_fb, Foldback.withdrawn]
    cases (s.fb e).standing p <;> rfl
  · simp [exec_prstAssert, held]

end Sys2Proof.Machine

/-! SUPPORT. What a port held in reset does not own (R39, R59, R115), and O60. -/

namespace Sys2Proof.Machine

/-! ### What a port does not own -/

/-- No list holds an ACTIVE MOMENTARY entry that `p` has created (R59). -/
def NoMomentary (p : Port) (r : RouteStore) : Prop := ∀ d, ∀ y ∈ (r.dests.get d).list, y.momentaryOf p = false

/-- No earpiece holds a talk record of `p` (R115). -/
def NoTalk (p : Port) (u : FoldbackUnit) : Prop := ∀ e, ∀ t ∈ (u.recs.get e).records, t.port ≠ p

theorem heldOwnsNothing_iff (s : State) :
    HeldOwnsNothing s ↔
      ∀ p, (s.port p).held = true → s.access.holder ≠ some p ∧ NoMomentary p s.route ∧ NoTalk p s.foldback := Iff.rfl

/-! ### Authority: requests of another port (R35, R36, R37) -/

section Holder
variable {p q : Port} {s : State}

theorem claimAuthority_holder (other : q ≠ p) (h : s.access.holder ≠ some p) : (claimAuthority q s).1.access.holder ≠ some p := by
  unfold claimAuthority
  split
  · exact fun e => other (Option.some.inj e)
  · split <;> exact h

theorem releaseAuthority_holder (h : s.access.holder ≠ some p) : (releaseAuthority q s).1.access.holder ≠ some p := by
  unfold releaseAuthority
  split <;> [nofun; exact h]

theorem seizeAuthority_holder (other : q ≠ p) (h : s.access.holder ≠ some p) : (seizeAuthority q s).1.access.holder ≠ some p := by
  unfold seizeAuthority
  split
  · rw [postAll_access]
    exact fun e => other (Option.some.inj e)
  · exact h

theorem setSeizeRight_holder (port switch : Byte) (h : s.access.holder ≠ some p) :
    (setSeizeRight port switch s).1.access.holder ≠ some p := by
  unfold setSeizeRight
  split <;> exact h

theorem setWindow_holder (port window enabled base mask priority listenOnly tag : Byte) (h : s.access.holder ≠ some p) :
    (setWindow port window enabled base mask priority listenOnly tag s).1.access.holder ≠ some p := by
  unfold setWindow
  split <;> exact h

end Holder

/-! ### Momentary entries: requests of another port (R43, R47, R48) -/

theorem momentaryOf_of_creator {p : Port} {y : Entry} (h : y.creator ≠ p) : y.momentaryOf p = false := by
  simp [Entry.momentaryOf, h]

theorem fadeOut_momentaryOf (p : Port) (y : Entry) (frames : Nat) : (y.fadeOut frames).momentaryOf p = false := by
  simp [Entry.fadeOut, Entry.retarget, Entry.momentaryOf]

/-- One list replaced by one without such an entry. -/
theorem noMomentary_put {p : Port} {r : RouteStore} (h : NoMomentary p r) {d : Dest} {x : DestRec} {free : Nat}
    (list : ∀ y ∈ x.list, y.momentaryOf p = false) :
    NoMomentary p { r with dests := put r.dests d x, free := free } := by
  intro j
  dsimp only
  rw [get_put]
  split <;> [exact list; exact h j]

theorem noMomentary_settleList {p : Port} {s : State} (h : NoMomentary p s.route) {d : Dest} {l : List Entry}
    (list : ∀ y ∈ l, y.momentaryOf p = false) : NoMomentary p (s.settleList d l).route :=
  noMomentary_put h fun y mem => list y (List.mem_of_mem_filter mem)

/-- Entries rewritten one by one, each without becoming such an entry. -/
theorem momentaryOf_map {p : Port} {l : List Entry} {f : Entry → Entry} (h : ∀ y ∈ l, y.momentaryOf p = false)
    (keeps : ∀ y, y.momentaryOf p = false → (f y).momentaryOf p = false) : ∀ y ∈ l.map f, y.momentaryOf p = false := by
  intro y mem
  obtain ⟨z, z_mem, rfl⟩ := List.mem_map.mp mem
  exact keeps z (h z z_mem)

section Momentary
variable {p q : Port} {s : State}

theorem routeAdd_noMomentary (other : q ≠ p) (h : NoMomentary p s.route) (dest source level mode : Byte) :
    NoMomentary p (routeAdd q dest source level mode s).1.route := by
  unfold routeAdd
  split
  · next d x m _ _ _ =>
    split
    · exact h
    · unfold routeAddChecked
      dsimp only
      split
      · exact h
      · split
        · split
          · exact h
          · refine noMomentary_put h (momentaryOf_map (h d) fun y keep => ?_)
            split <;> [exact momentaryOf_of_creator other; exact keep]
        · split
          · exact h
          · split
            · exact h
            · refine noMomentary_put h fun y mem => ?_
              rcases List.mem_append.mp mem with old | new
              · exact h d y old
              · rw [List.mem_singleton.mp new]
                exact momentaryOf_of_creator other
  · exact h

theorem routeLevel_noMomentary (h : NoMomentary p s.route) (dest source level : Byte) :
    NoMomentary p (routeLevel q dest source level s).1.route := by
  unfold routeLevel
  split
  · next d _ _ _ =>
    split
    · exact h
    · split
      · exact h
      · refine noMomentary_put h (momentaryOf_map (h d) fun y keep => ?_)
        split <;> exact keep
  · exact h

theorem routeRemove_noMomentary (h : NoMomentary p s.route) (dest source : Byte) :
    NoMomentary p (routeRemove q dest source s).1.route := by
  unfold routeRemove
  split
  · next d _ _ _ =>
    split
    · exact h
    · split
      · exact h
      · refine noMomentary_settleList h (momentaryOf_map (h d) fun y keep => ?_)
        split <;> [exact fadeOut_momentaryOf _ _ _; exact keep]
  · exact h

theorem routeClear_noMomentary (h : NoMomentary p s.route) (dest filter : Byte) :
    NoMomentary p (routeClear q dest filter s).1.route := by
  unfold routeClear
  split
  · next d _ _ _ =>
    split
    · exact h
    · refine noMomentary_settleList h (momentaryOf_map (h d) fun y keep => ?_)
      split <;> [exact fadeOut_momentaryOf _ _ _; exact keep]
  · exact h

theorem setDest_noMomentary (h : NoMomentary p s.route) (dest master fade : Byte) :
    NoMomentary p (setDest q dest master fade s).1.route := by
  unfold setDest
  split
  · next d _ => split <;> [exact h; exact noMomentary_put h (h d)]
  · exact h

theorem setTrim_noMomentary (h : NoMomentary p s.route) (source trim : Byte) : NoMomentary p (setTrim source trim s).1.route := by
  unfold setTrim
  split <;> exact h

end Momentary

/-! ### Talk records: requests of another port (R94, R104) -/

section Talk
variable {p q : Port} {s : State}

theorem noTalk_putFb (h : NoTalk p s.foldback) {e : Earpiece} {f : Foldback} (records : ∀ t ∈ f.records, t.port ≠ p) :
    NoTalk p (s.putFb e f).foldback := by
  intro j
  change ∀ t ∈ ((put s.foldback.recs e f).get j).records, t.port ≠ p
  rw [get_put]
  split <;> [exact records; exact h j]

theorem noTalk_setTalk (h : NoTalk p s.foldback) {e : Earpiece} {x : TalkStep} (records : ∀ t ∈ x.1.records, t.port ≠ p) :
    NoTalk p (s.setTalk e x).foldback := by
  rw [setTalk_foldback]
  exact noTalk_putFb h records

theorem talkOn_noTalk (other : q ≠ p) (sound : s.foldback.Sound) (h : NoTalk p s.foldback) (e : Earpiece) (talker : Talker)
    (origin : Option Group) : NoTalk p (s.talkOn q e talker origin).1.foldback := by
  cases check : s.access.checkWrite q (earDest e) with
  | error a => rw [talkOn_error check]; exact h
  | ok w =>
    obtain ⟨-, records⟩ := request_sound (fb_sound sound e) e (t := s.newTalk q w talker origin) (sound e).2
    rw [talkOn_ok check]
    split
    · refine noTalk_setTalk (s := s.nextArrival) h fun u mem => ?_
      rcases records u mem with rfl | old
      · exact other
      · exact h e u old
    · exact h

theorem releaseOn_noTalk (sound : s.foldback.Sound) (h : NoTalk p s.foldback) (e : Earpiece) :
    NoTalk p (s.releaseOn q e).1.foldback := by
  unfold State.releaseOn
  split
  · exact h
  · split
    · exact h
    · obtain ⟨-, records⟩ := withdraw_sound (fb_sound sound e) e (s.fadeLength (earDest e)) q
      exact noTalk_setTalk h fun u mem => h e u (records u mem).1

theorem talkRequest_noTalk (other : q ≠ p) (sound : s.foldback.Sound) (h : NoTalk p s.foldback) (earpiece talker : Byte) :
    NoTalk p (talkRequest q earpiece talker s).1.foldback := by
  unfold talkRequest
  split <;> [exact talkOn_noTalk other sound h _ _ _; exact h]

theorem talkRelease_noTalk (sound : s.foldback.Sound) (h : NoTalk p s.foldback) (earpiece : Byte) :
    NoTalk p (talkRelease q earpiece s).1.foldback := by
  unfold talkRelease
  split <;> [exact releaseOn_noTalk sound h _; exact h]

theorem talkGroup_noTalk (other : q ≠ p) (sound : s.foldback.Sound) (h : NoTalk p s.foldback) (group talker : Byte) :
    NoTalk p (talkGroup q group talker s).1.foldback := by
  unfold talkGroup
  split
  · exact (visit_keeps (P := fun u => u.foldback.Sound ∧ NoTalk p u.foldback)
      (fun u e hu => ⟨talkOn_sound hu.1 _ _ _ _, talkOn_noTalk other hu.1 hu.2 _ _ _⟩) _ ⟨sound, h⟩).2
  · exact h

theorem releaseGroup_noTalk (sound : s.foldback.Sound) (h : NoTalk p s.foldback) (group : Byte) :
    NoTalk p (releaseGroup q group s).1.foldback := by
  unfold releaseGroup
  split
  · exact (visit_keeps (P := fun u => u.foldback.Sound ∧ NoTalk p u.foldback)
      (fun u e hu => ⟨releaseOn_sound hu.1 _ _, releaseOn_noTalk hu.1 hu.2 _⟩) _ ⟨sound, h⟩).2
  · exact h

theorem setGroup_noTalk (h : NoTalk p s.foldback) (group : Byte) (members : BitVec 16) :
    NoTalk p (setGroup group members s).1.foldback := by
  unfold setGroup
  split <;> exact h

theorem setFoldback_noTalk (sound : s.foldback.Sound) (h : NoTalk p s.foldback)
    (earpiece bed nominal duck interrupt lead hold limit : Byte) :
    NoTalk p (setFoldback q earpiece bed nominal duck interrupt lead hold limit s).1.foldback := by
  unfold setFoldback
  split
  · next e b _ _ =>
    split
    · exact h
    · obtain ⟨_, _, same, -⟩ := resettle_cases (fb_sound sound e) b (clampLevel nominal) (clampLevel duck) (clampLevel interrupt)
        (clampLead lead) hold limit (s.fadeLength (earDest e))
      exact noTalk_putFb h (by rw [same]; exact h e)
  · exact h

end Talk

/-! ### Every command, seen from a port held in reset -/

/-- A request comes from another port than one held in reset, so it may be judged by its act on the state as its taker's. -/
theorem takeRequest_keeps_held {P : State → Prop} {s t : State} {p q : Port} {i : Instr} {act : State → State × Answer}
    (sound : PortsSound s) (held : (s.port p).held = true) (ports : ∀ s v, P s → P { s with ports := v })
    (acts : q ≠ p → ∀ u, P u → P (act u).1) (h : P s) (done : takeRequest s q i act = .next t) : P t := by
  rcases takeRequest_cases done with ⟨-, rfl⟩ | ⟨tag, spelled, rfl⟩
  · exact h
  · have other : q ≠ p := by
      rintro rfl
      simp [(spelled_of_sound sound spelled).2] at held
    exact ports _ _ (acts other _ (ports s _ h))

section Held
variable {i : Instr} {s t : State} {p : Port}

theorem exec_holder (sound : PortsSound s) (held : (s.port p).held = true) (h : s.access.holder ≠ some p)
    (done : exec i s = .next t) : t.access.holder ≠ some p := by
  have ports : ∀ (s : State) v, s.access.holder ≠ some p → ({ s with ports := v } : State).access.holder ≠ some p := fun _ _ h => h
  cases i with
  | claimAuthority => exact takeRequest_keeps_held sound held ports (fun other u hu => claimAuthority_holder other hu) h done
  | releaseAuthority => exact takeRequest_keeps_held sound held ports (fun _ u hu => releaseAuthority_holder hu) h done
  | seizeAuthority => exact takeRequest_keeps_held sound held ports (fun other u hu => seizeAuthority_holder other hu) h done
  | setSeizeRight =>
    exact takeRequest_keeps_held sound held ports (fun _ => withAuthority_keeps fun u hu => setSeizeRight_holder _ _ hu) h done
  | setWindow =>
    exact takeRequest_keeps_held sound held ports
      (fun _ => withAuthority_keeps fun u hu => setWindow_holder _ _ _ _ _ _ _ _ hu) h done
  | prstAssert q =>
    rcases prstAssert_cases done with ⟨-, same⟩ | ⟨-, fresh⟩
    · rwa [same]
    · rw [fresh, (resetPort_kept s q).1]
      unfold AccessUnit.portReset
      split <;> [nofun; exact h]
  | chipReset =>
    rw [chipReset_done done]
    simp only [State.chipReset, AccessUnit.reset]
    nofun
  | _ => rw [(exec_kept done).access rfl]; exact h

theorem noMomentary_settleAll {r : RouteStore} (h : NoMomentary p r) {f : DestRec → Entry → Entry}
    (keeps : ∀ x y, y.momentaryOf p = false → (f x y).momentaryOf p = false) :
    NoMomentary p (r.settleAll fun x => x.list.map (f x)) := by
  intro d y mem
  rw [settleAll_dest] at mem
  exact momentaryOf_map (h d) (keeps _) y (List.mem_of_mem_filter mem)

theorem portReset_noMomentary {r : RouteStore} (h : NoMomentary p r) (q : Port) : NoMomentary p (r.portReset q) := by
  refine noMomentary_settleAll (f := fun x y => if y.momentaryOf q then y.fadeOut (fadeFrames x.fade) else y) h fun x y keep => ?_
  split <;> [exact fadeOut_momentaryOf _ _ _; exact keep]

/-- The reset port itself is left with no ACTIVE MOMENTARY entry (R59). -/
theorem portReset_noMomentary_own (r : RouteStore) (p : Port) : NoMomentary p (r.portReset p) := by
  intro d y mem
  rw [portReset_dest] at mem
  obtain ⟨z, -, rfl⟩ := List.mem_map.mp (List.mem_of_mem_filter mem)
  split
  · exact fadeOut_momentaryOf _ _ _
  · next keep => simpa using keep

theorem routeFrame_dest (r : RouteStore) (d : Dest) :
    r.frame.dests.get d = { r.dests.get d with list := unfinished ((r.dests.get d).list.map Entry.frame) } := by
  simp only [RouteStore.frame, settleAll_dest]

theorem frame_noMomentary {r : RouteStore} (h : NoMomentary p r) : NoMomentary p r.frame := by
  intro d y mem
  rw [routeFrame_dest] at mem
  exact momentaryOf_map (f := Entry.frame) (h d) (fun _ keep => keep) y (List.mem_of_mem_filter mem)

theorem reset_noMomentary : NoMomentary p RouteStore.reset := by
  intro d y mem
  simp [RouteStore.reset, DestRec.reset] at mem

theorem exec_noMomentary (sound : PortsSound s) (held : (s.port p).held = true) (h : NoMomentary p s.route)
    (done : exec i s = .next t) : NoMomentary p t.route := by
  have ports : ∀ (s : State) v, NoMomentary p s.route → NoMomentary p ({ s with ports := v } : State).route := fun _ _ h => h
  cases i with
  | routeAdd =>
    exact takeRequest_keeps_held sound held ports (fun other u hu => routeAdd_noMomentary other hu _ _ _ _) h done
  | routeLevel => exact takeRequest_keeps_held sound held ports (fun _ u hu => routeLevel_noMomentary hu _ _ _) h done
  | routeRemove => exact takeRequest_keeps_held sound held ports (fun _ u hu => routeRemove_noMomentary hu _ _) h done
  | routeClear => exact takeRequest_keeps_held sound held ports (fun _ u hu => routeClear_noMomentary hu _ _) h done
  | setDest => exact takeRequest_keeps_held sound held ports (fun _ u hu => setDest_noMomentary hu _ _ _) h done
  | setTrim =>
    exact takeRequest_keeps_held sound held ports (fun _ => withAuthority_keeps fun u hu => setTrim_noMomentary hu _ _) h done
  | prstAssert q =>
    rcases prstAssert_cases done with ⟨-, same⟩ | ⟨-, fresh⟩
    · rwa [same]
    · rw [fresh, resetPort_route]
      exact portReset_noMomentary h q
  | chipReset =>
    rw [chipReset_done done, chipReset_route]
    exact reset_noMomentary
  | mixFrameEvent mics programmes =>
    rw [frame_done done, frame_route]
    exact frame_noMomentary h
  | _ => rw [(exec_kept done).route rfl]; exact h

/-- A withdrawal lets no record in, and none of its own port stay (R115). -/
theorem withdrawn_records {f : Foldback} (sound : f.Sound) (e : Earpiece) (fade : Nat) (q : Port) :
    ∀ u ∈ (f.withdrawn e fade q).1.records, u ∈ f.records ∧ u.port ≠ q := by
  unfold Foldback.withdrawn
  split
  · next none_standing => exact fun u mem => ⟨mem, standing_none.mp none_standing u mem⟩
  · exact (withdraw_sound sound e fade q).2

theorem resetPort_records (sound : s.foldback.Sound) (q : Port) (e : Earpiece) :
    ∀ u ∈ ((s.resetPort q).fb e).records, u ∈ (s.fb e).records ∧ u.port ≠ q := by
  rw [resetPort_fb]
  exact withdrawn_records (fb_sound sound e) _ _ _

theorem exec_noTalk (ports : PortsSound s) (held : (s.port p).held = true) (sound : s.foldback.Sound) (h : NoTalk p s.foldback)
    (done : exec i s = .next t) : NoTalk p t.foldback := by
  have atPorts : ∀ (s : State) v, s.foldback.Sound ∧ NoTalk p s.foldback →
      ({ s with ports := v } : State).foldback.Sound ∧ NoTalk p ({ s with ports := v } : State).foldback := fun _ _ h => h
  have both := And.intro sound h
  cases i with
  | talkRequest => exact (takeRequest_keeps_held ports held atPorts (fun other u hu =>
      ⟨talkRequest_sound hu.1 _ _ _, talkRequest_noTalk other hu.1 hu.2 _ _⟩) both done).2
  | talkRelease => exact (takeRequest_keeps_held ports held atPorts (fun _ u hu =>
      ⟨talkRelease_sound hu.1 _ _, talkRelease_noTalk hu.1 hu.2 _⟩) both done).2
  | talkGroup => exact (takeRequest_keeps_held ports held atPorts (fun other u hu =>
      ⟨talkGroup_sound hu.1 _ _ _, talkGroup_noTalk other hu.1 hu.2 _ _⟩) both done).2
  | releaseGroup => exact (takeRequest_keeps_held ports held atPorts (fun _ u hu =>
      ⟨releaseGroup_sound hu.1 _ _, releaseGroup_noTalk hu.1 hu.2 _⟩) both done).2
  | setGroup => exact (takeRequest_keeps_held ports held atPorts (fun _ => withAuthority_keeps fun u hu =>
      ⟨setGroup_sound hu.1 _ _, setGroup_noTalk hu.2 _ _⟩) both done).2
  | setFoldback => exact (takeRequest_keeps_held ports held atPorts (fun _ u hu =>
      ⟨setFoldback_sound hu.1 _ _ _ _ _ _ _ _ _, setFoldback_noTalk hu.1 hu.2 _ _ _ _ _ _ _ _⟩) both done).2
  | leadExpiry e =>
    rw [exec_leadExpiry] at done
    split at done <;> obtain rfl := Host.Outcome.next.inj done
    · next lead => exact noTalk_putFb h (by rw [(leadEnds_sound (fb_sound sound e) lead.1).2]; exact h e)
    · exact h
  | limitExpiry e =>
    rw [exec_limitExpiry] at done
    split at done
    · next x holder =>
      split at done <;> obtain rfl := Host.Outcome.next.inj done
      · refine noTalk_setTalk h ?_
        rw [(holderLeaves_sound (fb_sound sound e) e _ holder).2]
        exact fun u mem => h e u (by rw [← State.fb, records_of_holder holder]; exact List.mem_cons_of_mem _ mem)
      · exact h
    · obtain rfl := Host.Outcome.next.inj done; exact h
  | holdExpiry e =>
    rw [exec_holdExpiry] at done
    split at done <;> obtain rfl := Host.Outcome.next.inj done
    · next hold => exact noTalk_putFb h (by rw [(holdEnds_sound (fb_sound sound e) hold.1 _).2]; exact h e)
    · exact h
  | prstAssert q =>
    rcases prstAssert_cases done with ⟨-, same⟩ | ⟨-, fresh⟩
    · rwa [same]
    · rw [fresh]
      exact fun e u mem => h e u (resetPort_records sound q e u mem).1
  | chipReset =>
    rw [chipReset_done done, chipReset_foldback]
    intro e u mem
    simp [FoldbackUnit.reset, Foldback.reset, Foldback.records] at mem
  | mixFrameEvent mics programmes =>
    rw [frame_done done]
    intro e
    rw [← State.fb, frame_fb]
    exact h e
  | _ => rw [(exec_kept done).foldback rfl]; exact h

theorem held_putPort {q : Port} {r : PortRec} (held : ((s.putPort q r).port p).held = true)
    (same : r.held = true → (s.port q).held = true) : (s.port p).held = true := by
  rw [port_putPort] at held
  split at held
  · next e => subst e; exact same held
  · exact held

theorem held_refused {q : Port} {tag : Byte} {a : Answer} (held : (((s.endTransaction q).reply q tag a).port p).held = true) :
    (s.port p).held = true :=
  held_putPort (held_putPort held id) id

/-- Among the commands on the pins, PRST alone brings a port into reset (R19). -/
theorem pins_held (pins : onPins i = true) (done : exec i s = .next t) (held : (t.port p).held = true) :
    (s.port p).held = true ∨ i = .prstAssert p ∧ t = s.resetPort p := by
  cases i <;> cases pins
  case transactionBegin q =>
    simp only [exec, execTransactionBegin] at done
    split at done <;> obtain rfl := Host.Outcome.next.inj done
    · exact .inl held
    · exact .inl (held_putPort held id)
  case framing q =>
    simp only [exec, execFraming] at done
    split at done <;> obtain rfl := Host.Outcome.next.inj done
    · exact .inl (held_refused held)
    · exact .inl held
  case unknown q =>
    simp only [exec, execUnknown] at done
    split at done <;> obtain rfl := Host.Outcome.next.inj done
    · exact .inl (held_refused held)
    · exact .inl held
  case clockPeriod q sdi =>
    simp only [exec, execClockPeriod] at done
    split at done <;> obtain rfl := Host.Outcome.next.inj done
    · exact .inl held
    · exact .inl (held_putPort held id)
  case prstRelease q =>
    obtain rfl := Host.Outcome.next.inj done
    exact .inl (held_putPort held nofun)
  case prstAssert q =>
    rcases prstAssert_cases done with ⟨-, same⟩ | ⟨-, fresh⟩
    · rw [same] at held; exact .inl held
    · by_cases own : p = q
      · subst own; exact .inr ⟨rfl, fresh⟩
      · rw [fresh, resetPort_port_ne s own, postAll_port_held] at held
        exact .inl held
  case chipReset =>
    rw [chipReset_done done, State.port] at held
    simp only [State.chipReset, get_remap] at held
    exact .inl held
  case nresetRelease =>
    obtain rfl := Host.Outcome.next.inj done
    split at held <;> exact .inl held

/-- Only the assertion of PRST brings a port into reset (R19). -/
theorem exec_held (done : exec i s = .next t) (held : (t.port p).held = true) :
    (s.port p).held = true ∨ i = .prstAssert p ∧ t = s.resetPort p := by
  rcases request_or_pins_or_event i s with ⟨q, asks⟩ | pins | ⟨u, done', -, xs, posts⟩
  · rcases request_cases asks done with ⟨-, rfl⟩ | ⟨tag, r, -, owner, rfl⟩
    · exact .inl held
    · left
      by_cases own : p = q
      · subst own
        rw [port_reply_same] at held
        have same := owner.own_held
        rw [port_endTransaction_same] at same
        exact same.symm.trans held
      · obtain ⟨xs, others⟩ := owner.others
        rwa [port_reply_ne _ _ _ own, others p own, postAll_port_held, port_endTransaction_ne s own] at held
  · exact pins_held pins done held
  · left
    rw [done] at done'
    obtain rfl := Host.Outcome.next.inj done'
    rwa [port_of_ports posts, postAll_port_held] at held

end Held

/-- A port held after a command owns nothing, since it was held before and its requests are not taken, or since its reset has
freed what it owned. -/
theorem exec_heldOwnsNothing {i : Instr} {s t : State} (ports : PortsSound s) (sound : s.foldback.Sound) (h : HeldOwnsNothing s)
    (done : exec i s = .next t) : HeldOwnsNothing t := by
  rw [heldOwnsNothing_iff] at h ⊢
  intro p held'
  rcases exec_held done held' with held | ⟨-, fresh⟩
  · obtain ⟨holder, entries, records⟩ := h p held
    exact ⟨exec_holder ports held holder done, exec_noMomentary ports held entries done,
      exec_noTalk ports held sound records done⟩
  · rw [fresh]
    refine ⟨?_, ?_, fun e u mem => (resetPort_records sound p e u mem).2⟩
    · rw [(resetPort_kept s p).1]
      unfold AccessUnit.portReset
      split <;> [nofun; assumption]
    · rw [resetPort_route]
      exact portReset_noMomentary_own s.route p

/-- Settles O60: PRST frees what its port owns, and nothing is given to a port whose requests are not taken. -/
theorem stepKeepsHeldPortsFromOwning : Obligations.StepKeepsHeldPortsFromOwning := by
  rintro s t ⟨ports, sound, owns⟩ run
  refine ⟨step_portsSound ports run, step_foldbackSound sound run, ?_⟩
  rcases step_cases run with rfl | ⟨c, rest, done⟩
  · rw [crystalPeriod_eq]; exact owns
  · exact exec_heldOwnsNothing (s := { s with pending := rest }) ports sound owns done

end Sys2Proof.Machine

/-! SUPPORT. The elastic buffer (07, sections 7.1 and 7.5): depth, fill, slips owed, and a record's soundness under each
operation. -/

namespace Sys2Proof.Machine

/-! ### Depths and slips owed (R132, R146) -/

/-- The four slip units, and the depth that is 32 of them (R132). -/
theorem slipUnit_cases (l : LineRec) :
    (l.slipUnit = 8 ∨ l.slipUnit = 16 ∨ l.slipUnit = 32 ∨ l.slipUnit = 64) ∧ l.size = 32 * l.slipUnit := by
  have lt : l.depth.toNat < 4 := l.depth.isLt
  unfold LineRec.slipUnit LineRec.size depthOf
  generalize l.depth.toNat = c at lt
  interval_cases c <;> simp

/-- The slips owed, by the side of D/2 on which the fill stands; the fraction is discarded toward zero (R146). -/
theorem owed_cases (l : LineRec) :
    (16 * l.slipUnit ≤ l.fill ∧ l.owed = ((l.fill - 16 * l.slipUnit) / l.slipUnit : Nat)) ∨
      (l.fill < 16 * l.slipUnit ∧ l.owed = -((16 * l.slipUnit - l.fill) / l.slipUnit : Nat)) := by
  obtain ⟨-, size⟩ := slipUnit_cases l
  have half : l.size / 2 = 16 * l.slipUnit := by omega
  unfold LineRec.owed LineRec.deviation
  rw [half]
  rcases Nat.lt_or_ge l.fill (16 * l.slipUnit) with below | above
  · right
    refine ⟨below, ?_⟩
    rw [show (l.fill : Int) - (16 * l.slipUnit : Nat) = -((16 * l.slipUnit - l.fill : Nat) : Int) by omega, Int.neg_tdiv,
      Int.ofNat_tdiv]
  · left
    refine ⟨above, ?_⟩
    rw [show (l.fill : Int) - (16 * l.slipUnit : Nat) = ((l.fill - 16 * l.slipUnit : Nat) : Int) by omega, Int.ofNat_tdiv]

theorem slipUnit_pos (l : LineRec) : 0 < l.slipUnit := by
  obtain ⟨unit, -⟩ := slipUnit_cases l
  omega

/-- So many slips are owed as whole slip units stand above D/2. -/
theorem le_owed_iff (l : LineRec) {n : Nat} (h : 0 < n) : (n : Int) ≤ l.owed ↔ 16 * l.slipUnit + n * l.slipUnit ≤ l.fill := by
  have units := Nat.le_div_iff_mul_le (x := n) (y := l.fill - 16 * l.slipUnit) (slipUnit_pos l)
  have positive := Nat.mul_pos h (slipUnit_pos l)
  rcases owed_cases l with ⟨side, owed⟩ | ⟨side, owed⟩ <;> rw [owed]
  · generalize (l.fill - 16 * l.slipUnit) / l.slipUnit = q at units
    omega
  · generalize (16 * l.slipUnit - l.fill) / l.slipUnit = q
    omega

/-- So many slips are owed the other way as whole slip units are missing below D/2. -/
theorem owed_le_neg_iff (l : LineRec) {n : Nat} (h : 0 < n) : l.owed ≤ -(n : Int) ↔ l.fill + n * l.slipUnit ≤ 16 * l.slipUnit := by
  have units := Nat.le_div_iff_mul_le (x := n) (y := 16 * l.slipUnit - l.fill) (slipUnit_pos l)
  have positive := Nat.mul_pos h (slipUnit_pos l)
  rcases owed_cases l with ⟨side, owed⟩ | ⟨side, owed⟩ <;> rw [owed]
  · generalize (l.fill - 16 * l.slipUnit) / l.slipUnit = q
    omega
  · generalize (16 * l.slipUnit - l.fill) / l.slipUnit = q at units
    omega

theorem owed_pos (l : LineRec) : 0 < l.owed ↔ 17 * l.slipUnit ≤ l.fill := by
  have := le_owed_iff l (n := 1) (by decide)
  omega

theorem owed_neg (l : LineRec) : l.owed < 0 ↔ l.fill ≤ 15 * l.slipUnit := by
  have := owed_le_neg_iff l (n := 1) (by decide)
  omega

theorem owed_eq_eight (l : LineRec) : l.owed = 8 ↔ 24 * l.slipUnit ≤ l.fill ∧ l.fill < 25 * l.slipUnit := by
  have := le_owed_iff l (n := 8) (by decide)
  have := le_owed_iff l (n := 9) (by decide)
  omega

theorem owed_eq_neg_eight (l : LineRec) : l.owed = -8 ↔ 7 * l.slipUnit < l.fill ∧ l.fill ≤ 8 * l.slipUnit := by
  have := owed_le_neg_iff l (n := 8) (by decide)
  have := owed_le_neg_iff l (n := 9) (by decide)
  omega

theorem owed_natAbs_le_seven (l : LineRec) : l.owed.natAbs ≤ 7 ↔ 8 * l.slipUnit < l.fill ∧ l.fill < 24 * l.slipUnit := by
  have := le_owed_iff l (n := 8) (by decide)
  have := owed_le_neg_iff l (n := 8) (by decide)
  omega

/-! ### Sound records -/

/-- What the plan and the slip counts of a sound record satisfy in every state (R131, R149). -/
def LineRec.PlanSound (l : LineRec) : Prop :=
  1 ≤ l.acquire ∧ l.acquire ≤ 60 ∧ l.quietSlips ≤ Config.slipCountMax ∧ l.forcedSlips ≤ Config.slipCountMax

/-- What a sound LOCKED line keeps of its buffer and replay store (R147, R148), with U for the depths. -/
def LineRec.BandSound (l : LineRec) : Prop :=
  8 * l.slipUnit < l.fill ∧ l.fill < 24 * l.slipUnit ∧ l.quietRun ≤ Config.quietRunFull ∧
    l.replay.length ≤ Config.replayCapacity ∧ min l.quietRun Config.replayCapacity ≤ l.replay.length ∧
    16 * l.slipUnit ≤ l.fill + 7 * l.slipUnit + l.replay.length

theorem LineRec.Sound.plan {l : LineRec} (h : l.Sound) : l.PlanSound := by
  obtain ⟨-, -, -, -, -, low, high, -, quiet, forced, -⟩ := h
  exact ⟨low, high, quiet, forced⟩

theorem LineRec.Sound.band {l : LineRec} (h : l.Sound) (locked : l.state = .locked) : l.BandSound := by
  obtain ⟨-, size⟩ := slipUnit_cases l
  obtain ⟨-, -, -, -, band, -, -, run, -, -, replay, back⟩ := h
  obtain ⟨low, high⟩ := band locked
  obtain ⟨covered, served⟩ := back locked
  exact ⟨by omega, by omega, run, replay, covered, by omega⟩

/-- A line that receives nothing is empty (R133). -/
theorem LineRec.Sound.empty {l : LineRec} (h : l.Sound) (quiet : l.receiving = false) :
    l.buffer = [] ∧ l.replay = [] ∧ l.quietRun = 0 ∧ l.delivered = none := by
  have off : l.state ≠ .locked := by
    simp only [LineRec.receiving, Bool.or_eq_false_iff, decide_eq_false_iff_not] at quiet
    exact quiet.2
  obtain ⟨-, buffer, rest, -⟩ := h
  exact ⟨buffer quiet, rest off⟩

/-- A line without samples is sound in every state but LOCKED. -/
theorem lineSound_of_empty {l : LineRec} (plan : l.PlanSound) (timer : l.timer = none ↔ l.state = .idle ∨ l.state = .parked)
    (off : l.state ≠ .locked) (empty : l.buffer = [] ∧ l.replay = [] ∧ l.quietRun = 0 ∧ l.delivered = none) : l.Sound := by
  obtain ⟨low, high, quiet, forced⟩ := plan
  obtain ⟨buffer, replay, run, delivered⟩ := empty
  have unit := slipUnit_pos l
  obtain ⟨-, size⟩ := slipUnit_cases l
  exact ⟨timer, fun _ => buffer, fun _ => ⟨replay, run, delivered⟩, fun _ => by simp [LineRec.fill, buffer]; omega,
    fun on => absurd on off, low, high, by simp [run], quiet, forced, by simp [replay], fun on => absurd on off⟩

theorem lineSound_of_centering {l : LineRec} (plan : l.PlanSound) (timer : l.timer ≠ none) (centering : l.state = .centering)
    (fill : l.fill < 16 * l.slipUnit) (empty : l.replay = [] ∧ l.quietRun = 0 ∧ l.delivered = none) : l.Sound := by
  obtain ⟨low, high, quiet, forced⟩ := plan
  obtain ⟨replay, run, delivered⟩ := empty
  obtain ⟨-, size⟩ := slipUnit_cases l
  exact ⟨by simp [timer, centering], by simp [LineRec.receiving, centering], fun _ => ⟨replay, run, delivered⟩, fun _ => by omega,
    by simp [centering], low, high, by simp [run], quiet, forced, by simp [replay], by simp [centering]⟩

theorem lineSound_of_locked {l : LineRec} (plan : l.PlanSound) (timer : l.timer ≠ none) (locked : l.state = .locked)
    (band : l.BandSound) : l.Sound := by
  obtain ⟨low, high, quiet, forced⟩ := plan
  obtain ⟨above, below, run, replay, covered, served⟩ := band
  obtain ⟨-, size⟩ := slipUnit_cases l
  exact ⟨by simp [timer, locked], by simp [LineRec.receiving, locked], by simp [locked], by simp [locked],
    fun _ => by omega, low, high, run, quiet, forced, replay, fun _ => ⟨covered, by omega⟩⟩

theorem LineRec.Sound.timed {l : LineRec} (h : l.Sound) (up : l.receiving = true) : l.timer ≠ none := by
  obtain ⟨timer, -⟩ := h
  intro stopped
  simp only [LineRec.receiving, Bool.or_eq_true, decide_eq_true_eq] at up
  rcases timer.mp stopped with down | down <;> simp [down] at up

/-! ### The line's moves (R135 to R144) -/

section Moves
variable {l : LineRec}

theorem acquireFrom_sound (h : l.Sound) (quiet : l.receiving = false) : l.acquireFrom.Sound :=
  lineSound_of_empty h.plan (by simp [LineRec.acquireFrom]) (by simp [LineRec.acquireFrom]) (h.empty quiet)

theorem started_sound (h : l.Sound) : ({ l.flush with quietSlips := 0, forcedSlips := 0 } : LineRec).acquireFrom.Sound := by
  obtain ⟨low, high, -, -⟩ := h.plan
  exact lineSound_of_empty ⟨low, high, Nat.zero_le _, Nat.zero_le _⟩ (by simp [LineRec.acquireFrom]) (by simp [LineRec.acquireFrom])
    ⟨rfl, rfl, rfl, rfl⟩

theorem takenDown_sound (h : l.Sound) {st : LineState} (down : st = .idle ∨ st = .parked) : (l.takenDown st).Sound :=
  lineSound_of_empty h.plan (by simpa [LineRec.takenDown] using down)
    (by rintro on; rcases down with rfl | rfl <;> cases on) ⟨rfl, rfl, rfl, rfl⟩

theorem lock_sound (h : l.Sound) : ({ l.flush with state := .centering, timer := some Config.stallFrames } : LineRec).Sound :=
  lineSound_of_empty h.plan (by simp) (by simp) ⟨rfl, rfl, rfl, rfl⟩

theorem loseLock_sound (h : l.Sound) : l.loseLock.Sound :=
  lineSound_of_empty h.plan (by simp [LineRec.loseLock]) (by simp [LineRec.loseLock]) ⟨rfl, rfl, rfl, rfl⟩

theorem noLock_sound (h : l.Sound) (quiet : l.receiving = false) : ({ l with state := .parked, timer := none } : LineRec).Sound :=
  lineSound_of_empty h.plan (by simp) (by simp) (h.empty quiet)

end Moves

/-! ### Writes, reads and slips (R139, R141, R146 to R150) -/

theorem countUp_le (n : Nat) : countUp n ≤ Config.slipCountMax := min_le_right _ _

theorem lastOf_length {α : Type} (n : Nat) (l : List α) : (lastOf n l).length = min n l.length := by
  simp only [lastOf, List.length_drop]
  omega

/-- A slip when slips are owed drops the U oldest samples (R147, R148). -/
theorem slip_of_pos {l : LineRec} (h : 0 < l.owed) : l.slip = { l with buffer := l.buffer.drop l.slipUnit, quietRun := 0 } := by
  simp [LineRec.slip, h]

/-- A slip when they are owed the other way puts the last delivered samples back at the head (R147, R148). -/
theorem slip_of_not_pos {l : LineRec} (h : ¬ 0 < l.owed) :
    l.slip = { l with buffer := lastOf l.slipUnit l.replay ++ l.buffer, replay := l.replay.take (l.replay.length - l.slipUnit),
                      quietRun := 0 } := by
  simp [LineRec.slip, h]

theorem forcedOwed_iff (l : LineRec) : l.forcedOwed = true ↔
    (24 * l.slipUnit ≤ l.fill ∧ l.fill < 25 * l.slipUnit) ∨ (7 * l.slipUnit < l.fill ∧ l.fill ≤ 8 * l.slipUnit) := by
  simp only [LineRec.forcedOwed, Bool.or_eq_true, decide_eq_true_eq, owed_eq_eight, owed_eq_neg_eight]

/-- A slip keeps every field but the buffer, the replay store and the quiet run. -/
theorem slip_kept (l : LineRec) : l.slip =
    { l with buffer := l.slip.buffer, replay := l.slip.replay, quietRun := 0 } := by
  unfold LineRec.slip
  split <;> rfl

/-- A slip that drops samples brings the fill one slip unit down, where it stands in the band. -/
theorem slip_band_down {l : LineRec} (fill : 17 * l.slipUnit ≤ l.fill ∧ l.fill < 25 * l.slipUnit)
    (replay : l.replay.length ≤ Config.replayCapacity) : l.slip.BandSound := by
  rw [slip_of_pos ((owed_pos l).mpr fill.1)]
  have unit := slipUnit_pos l
  have dropped : (l.buffer.drop l.slipUnit).length = l.fill - l.slipUnit := List.length_drop
  refine ⟨?_, ?_, Nat.zero_le _, replay, by simp, ?_⟩
  · change 8 * l.slipUnit < (l.buffer.drop l.slipUnit).length
    omega
  · change (l.buffer.drop l.slipUnit).length < 24 * l.slipUnit
    omega
  · change 16 * l.slipUnit ≤ (l.buffer.drop l.slipUnit).length + 7 * l.slipUnit + _
    omega

/-- A put-back that the replay store can serve brings the fill one slip unit up, where it stands in the band. -/
theorem slip_band_up {l : LineRec} (fill : 8 * l.slipUnit ≤ l.fill ∧ l.fill ≤ 15 * l.slipUnit)
    (replay : l.replay.length ≤ Config.replayCapacity) (served : l.slipUnit ≤ l.replay.length) : l.slip.BandSound := by
  have unit := slipUnit_pos l
  have down : ¬ 0 < l.owed := by rw [owed_pos]; omega
  rw [slip_of_not_pos down]
  have put_back : (lastOf l.slipUnit l.replay ++ l.buffer).length = l.fill + l.slipUnit := by
    rw [List.length_append, lastOf_length, LineRec.fill]
    omega
  have left : (l.replay.take (l.replay.length - l.slipUnit)).length = l.replay.length - l.slipUnit := by
    rw [List.length_take]
    omega
  refine ⟨?_, ?_, Nat.zero_le _, ?_, by simp, ?_⟩
  · change 8 * l.slipUnit < (lastOf l.slipUnit l.replay ++ l.buffer).length
    omega
  · change (lastOf l.slipUnit l.replay ++ l.buffer).length < 24 * l.slipUnit
    omega
  · change (l.replay.take (l.replay.length - l.slipUnit)).length ≤ _
    omega
  · change 16 * l.slipUnit ≤ (lastOf l.slipUnit l.replay ++ l.buffer).length + 7 * l.slipUnit +
      (l.replay.take (l.replay.length - l.slipUnit)).length
    omega

/-- A slipped record with a slip counted is sound where its band is. -/
theorem slipped_sound {l : LineRec} (plan : l.PlanSound) (timer : l.timer ≠ none) (locked : l.state = .locked)
    (band : l.slip.BandSound) {q f : Nat} (quiet : q ≤ Config.slipCountMax) (forced : f ≤ Config.slipCountMax) :
    ({ l.slip with quietSlips := q, forcedSlips := f } : LineRec).Sound := by
  have kept := slip_kept l
  have timer' : l.slip.timer = l.timer := by rw [kept]
  have state' : l.slip.state = l.state := by rw [kept]
  have acquire' : l.slip.acquire = l.acquire := by rw [kept]
  refine lineSound_of_locked ⟨?_, ?_, quiet, forced⟩ (timer' ▸ timer) (state'.trans locked) band
  · change 1 ≤ l.slip.acquire
    rw [acquire']; exact plan.1
  · change l.slip.acquire ≤ 60
    rw [acquire']; exact plan.2.1

theorem write_centering_sound {l : LineRec} (h : l.Sound) (centering : l.state = .centering) (x : Sample)
    (fill : (l.write x).fill ≠ (l.write x).size / 2) : (l.write x).Sound := by
  obtain ⟨-, size⟩ := slipUnit_cases l
  obtain ⟨-, -, empty, low, -⟩ := id h
  have low := low centering
  have written : (l.write x).fill = l.fill + 1 := by simp [LineRec.fill, LineRec.write]
  have same : (l.write x).size = l.size := rfl
  refine lineSound_of_centering h.plan (by simp [LineRec.write]) centering ?_ (empty (by simp [centering]))
  change (l.write x).fill < 16 * l.slipUnit
  omega

theorem centred_sound {l : LineRec} (h : l.Sound) (x : Sample) (fill : (l.write x).fill = (l.write x).size / 2) :
    ({ l.write x with state := .locked, quietRun := 0, replay := [] } : LineRec).Sound := by
  have unit := slipUnit_pos l
  obtain ⟨-, size⟩ := slipUnit_cases l
  have same : (l.write x).size = l.size := rfl
  refine lineSound_of_locked h.plan (by simp [LineRec.write]) rfl ⟨?_, ?_, Nat.zero_le _, Nat.zero_le _, by simp, ?_⟩
  · change 8 * l.slipUnit < (l.write x).fill
    omega
  · change (l.write x).fill < 24 * l.slipUnit
    omega
  · change 16 * l.slipUnit ≤ (l.write x).fill + 7 * l.slipUnit + 0
    omega

theorem write_locked_sound {l : LineRec} (h : l.Sound) (locked : l.state = .locked) (x : Sample) :
    (l.write x).forceSlip.Sound := by
  have unit := slipUnit_pos l
  obtain ⟨above, below, run, replay, covered, served⟩ := h.band locked
  have written : (l.write x).fill = l.fill + 1 := by simp [LineRec.fill, LineRec.write]
  have same : (l.write x).slipUnit = l.slipUnit := rfl
  have owed := forcedOwed_iff (l.write x)
  have timed : (l.write x).timer ≠ none := by simp [LineRec.write]
  unfold LineRec.forceSlip
  split
  · next slips =>
    refine slipped_sound (l := l.write x) h.plan timed locked (slip_band_down ?_ replay) ?_ (countUp_le _)
    · have := owed.mp slips
      omega
    · rw [slip_kept]; exact h.plan.2.2.1
  · next slips =>
    have := mt owed.mpr slips
    refine lineSound_of_locked (l := l.write x) h.plan timed locked ⟨?_, ?_, run, replay, covered, ?_⟩
    · omega
    · omega
    · change 16 * l.slipUnit ≤ (l.write x).fill + 7 * l.slipUnit + l.replay.length
      omega

theorem deliver_replay_length (l : LineRec) (x : Sample) :
    (l.deliver x).replay.length = min Config.replayCapacity (l.replay.length + 1) := by
  simp [LineRec.deliver, lastOf_length]

theorem deliver_quietRun_le (l : LineRec) (x : Sample) :
    (l.deliver x).quietRun ≤ l.quietRun + 1 ∧ (l.deliver x).quietRun ≤ Config.quietRunFull := by
  simp only [LineRec.deliver]
  split
  · exact ⟨min_le_left _ _, min_le_right _ _⟩
  · exact ⟨Nat.zero_le _, Nat.zero_le _⟩

/-- A read takes the fill one down; where it leaves the band a forced slip brings it back, and a quiet slip stays in it. -/
theorem read_sound {l : LineRec} (h : l.Sound) (locked : l.state = .locked) {x : Sample} {rest : List Sample}
    (head : l.buffer = x :: rest) : ({ l with buffer := rest : LineRec }.deliver x).readSlip.Sound := by
  have timed : l.timer ≠ none := h.timed (by simp [LineRec.receiving, locked])
  obtain ⟨above, below, run, replay, covered, served⟩ := h.band locked
  obtain ⟨units, -⟩ := slipUnit_cases l
  have fill : l.fill = rest.length + 1 := by simp [LineRec.fill, head]
  have replay' := deliver_replay_length { l with buffer := rest } x
  obtain ⟨run', full'⟩ := deliver_quietRun_le { l with buffer := rest } x
  generalize hm : ({ l with buffer := rest : LineRec }.deliver x) = m at *
  have fill' : m.fill = rest.length := by rw [← hm]; rfl
  have unit' : m.slipUnit = l.slipUnit := by rw [← hm]; rfl
  have plan' : m.PlanSound := by rw [← hm]; exact h.plan
  have timed' : m.timer ≠ none := by rw [← hm]; exact timed
  have locked' : m.state = .locked := by rw [← hm]; exact locked
  simp only [Config.replayCapacity, Config.quietRunFull] at *
  have owed := forcedOwed_iff m
  have band : 8 * m.slipUnit < m.fill → m.BandSound := fun inside =>
    ⟨inside, by omega, full', by simp only [Config.replayCapacity]; omega, by simp only [Config.replayCapacity]; omega, by omega⟩
  have served' : m.fill ≤ 8 * m.slipUnit → m.slip.BandSound := fun low =>
    slip_band_up (by omega) (by simp only [Config.replayCapacity]; omega) (by omega)
  unfold LineRec.readSlip LineRec.forceSlip
  split
  · next slips =>
    have := owed.mp slips
    exact slipped_sound plan' timed' locked' (served' (by omega)) (by rw [slip_kept]; exact plan'.2.2.1) (countUp_le _)
  · next slips =>
    have inside : 8 * m.slipUnit < m.fill := by
      have := mt owed.mpr slips
      omega
    split
    · next quiet =>
      simp only [LineRec.quietOwed, Bool.and_eq_true, decide_eq_true_eq, Config.quietRunFull] at quiet
      obtain ⟨⟨full, some_owed⟩, -⟩ := quiet
      have full := of_decide_eq_true full
      have pos := owed_pos m
      have neg := owed_neg m
      refine slipped_sound plan' timed' locked' ?_ (countUp_le _) (by rw [slip_kept]; exact plan'.2.2.2)
      by_cases up : 0 < m.owed
      · exact slip_band_down (by omega) (by simp only [Config.replayCapacity]; omega)
      · exact slip_band_up (by omega) (by simp only [Config.replayCapacity]; omega) (by omega)
    · exact lineSound_of_locked plan' timed' locked' (band inside)

theorem passThrough_sound {l : LineRec} (h : l.Sound) (locked : l.state = .locked) (x : Sample) : (l.passThrough x).Sound := by
  obtain ⟨above, below, run, replay, covered, served⟩ := h.band locked
  obtain ⟨units, -⟩ := slipUnit_cases l
  unfold LineRec.passThrough
  split
  · next y rest head =>
    have fill : l.fill = rest.length := by
      have := congrArg List.length head
      simp [LineRec.write] at this
      exact this
    have replay' := deliver_replay_length { l.write x with buffer := rest } y
    obtain ⟨run', full'⟩ := deliver_quietRun_le { l.write x with buffer := rest } y
    refine lineSound_of_locked h.plan (by simp [LineRec.deliver, LineRec.write]) locked ⟨?_, ?_, full', ?_, ?_, ?_⟩
    · change 8 * l.slipUnit < rest.length
      omega
    · change rest.length < 24 * l.slipUnit
      omega
    · rw [replay']; exact min_le_left _ _
    · rw [replay']
      change _ ≤ min _ (l.replay.length + 1)
      change _ ≤ l.quietRun + 1 at run'
      omega
    · rw [replay']
      change 16 * l.slipUnit ≤ rest.length + 7 * l.slipUnit + min _ (l.replay.length + 1)
      simp only [Config.replayCapacity]
      omega
  · exact h

end Sys2Proof.Machine

/-! SUPPORT. The field line unit (07) command by command: its lines stay sound and their depths within the budget, and O58. -/

namespace Sys2Proof.Machine

/-! ### One line replaced -/

theorem line_sound {s : State} (h : s.field.Sound) (k : Line) : (s.line k).Sound := h.2 k

/-- One line replaced by a sound one of its depth. -/
theorem fieldSound_putLine {s : State} (h : s.field.Sound) {k : Line} {l : LineRec} (sound : l.Sound)
    (depth : l.depth = (s.line k).depth) : (s.putLine k l).field.Sound := by
  obtain ⟨budget, lines⟩ := h
  have sizes : ∀ j, ((put s.field.lines k l).get j).size = (s.field.lines.get j).size := fun j => by
    rw [get_put]
    split
    · next same => subst same; simp only [LineRec.size, depth]; rfl
    · rfl
  refine ⟨?_, fun j => ?_⟩
  · simpa [FieldUnit.totalDepth, State.putLine, sizes] using budget
  · change ((put s.field.lines k l).get j).Sound
    rw [get_put]
    split <;> [exact sound; exact lines j]

theorem changeLine_field (s : State) (k : Line) (l : LineRec) (c : LineCause) :
    (s.changeLine k l c).field = (s.putLine k { l with lastCause := c }).field := by rw [changeLine_eq]

theorem fieldSound_changeLine {s : State} (h : s.field.Sound) {k : Line} {l : LineRec} (c : LineCause) (sound : l.Sound)
    (depth : l.depth = (s.line k).depth) : (s.changeLine k l c).field.Sound := by
  rw [changeLine_field]
  exact fieldSound_putLine h sound depth

theorem not_receiving_of_state {l : LineRec} (h : l.state = .idle ∨ l.state = .acquiring ∨ l.state = .lost ∨ l.state = .parked) :
    l.receiving = false := by
  rcases h with h | h | h | h <;> simp [LineRec.receiving, h]

/-! ### The requests -/

section Requests
variable {s : State} {p : Port}

theorem fieldStart_sound (h : s.field.Sound) (line : Byte) : (fieldStart p line s).1.field.Sound := by
  unfold fieldStart
  split
  · exact h
  · next k _ =>
    split
    · exact h
    · split <;> [exact fieldSound_changeLine h _ (started_sound (line_sound h k)) rfl; exact h]

theorem fieldStop_sound (h : s.field.Sound) (line : Byte) : (fieldStop p line s).1.field.Sound := by
  unfold fieldStop
  split
  · exact h
  · next k _ =>
    split
    · exact h
    · split
      · exact h
      · split <;> [exact h; exact fieldSound_changeLine h _ (takenDown_sound (line_sound h k) (.inl rfl)) rfl]

theorem fieldPark_sound (h : s.field.Sound) (line : Byte) : (fieldPark p line s).1.field.Sound := by
  unfold fieldPark
  split
  · exact h
  · next k _ =>
    split
    · exact h
    · split
      · exact h
      · split
        · exact h
        · split <;> [exact h; exact fieldSound_changeLine h _ (takenDown_sound (line_sound h k) (.inr rfl)) rfl]

/-- A line's depth changed: the eight depths are those of the other lines and the new one (R151). -/
theorem totalDepth_put (f : FieldUnit) (k : Line) (l : LineRec) :
    ({ f with lines := put f.lines k l } : FieldUnit).totalDepth = f.otherDepths k + l.size := by
  have away : ∀ j, j ≠ k → ((put f.lines k l).get j).size = if j = k then 0 else (f.lines.get j).size := fun j hj => by
    rw [get_put_ne _ hj, if_neg hj]
  simpa [FieldUnit.totalDepth, FieldUnit.otherDepths] using sum_finRange_of_ne k away

theorem planned_sound {l : LineRec} (h : l.Sound) (down : l.down = true) (depth : BitVec 2) (quiet : Level) (wake : Bool)
    (acquire : Byte) :
    ({ l with depth := depth, quiet := quiet, autoWake := wake, acquire := clampAcquire acquire } : LineRec).Sound := by
  simp only [LineRec.down, Bool.or_eq_true, decide_eq_true_eq] at down
  obtain ⟨-, -, slips⟩ := h.plan
  obtain ⟨timer, -⟩ := id h
  refine lineSound_of_empty ⟨?_, ?_, slips⟩ timer ?_ (h.empty (not_receiving_of_state (down.imp_right fun d => .inr (.inr d))))
  · exact le_max_left _ _
  · exact max_le (by decide) (min_le_left _ _)
  · rcases down with down | down <;> simp [down]

theorem setFieldPlan_sound (h : s.field.Sound) (line depth quiet autoWake acquire : Byte) :
    (setFieldPlan line depth quiet autoWake acquire s).1.field.Sound := by
  unfold setFieldPlan
  split
  · exact h
  · next k _ =>
    dsimp only
    split
    · exact h
    · next down =>
      split
      · exact h
      · next budget =>
        refine ⟨?_, fun j => ?_⟩
        · exact (totalDepth_put s.field k _).trans_le (Nat.not_lt.mp budget)
        · change ((put s.field.lines k _).get j).Sound
          rw [get_put]
          split
          · exact planned_sound (line_sound h k) (not_not.mp down) _ _ _ _
          · exact h.2 j

end Requests

/-! ### Resets and frames -/

theorem lineReset_sound : LineRec.reset.Sound :=
  lineSound_of_empty (by simp [LineRec.PlanSound, LineRec.reset]) (by simp [LineRec.reset]) (by simp [LineRec.reset])
    ⟨rfl, rfl, rfl, rfl⟩

theorem fieldReset_sound : FieldUnit.reset.Sound := by
  have lines : ∀ k, FieldUnit.reset.lines.get k = LineRec.reset := fun k => by simp [FieldUnit.reset]
  refine ⟨?_, fun k => by rw [lines]; exact lineReset_sound⟩
  simp only [FieldUnit.totalDepth, lines]
  decide

theorem chipReset_field (s : State) : s.chipReset.field = FieldUnit.reset := by simp only [State.chipReset]

theorem ticked_sound {l : LineRec} (h : l.Sound) : ({ l with timer := tick l.timer } : LineRec).Sound := by
  obtain ⟨timer, rest⟩ := h
  refine ⟨?_, rest⟩
  rw [← timer]
  exact Option.map_eq_none_iff

theorem lineFrame_sound {l : LineRec} (h : l.Sound) (active : Bool) : (l.frame active).Sound := by
  unfold LineRec.frame
  split <;> [exact h; exact ticked_sound h]

theorem afterFrame_sound {l : LineRec} (h : l.Sound) (out : Int) : (l.afterFrame out).Sound := by
  obtain ⟨timer, quiet, off, rest⟩ := h
  exact ⟨timer, quiet, fun state => ⟨(off state).1, (off state).2.1, rfl⟩, rest⟩

theorem lineFrame_size (l : LineRec) (active : Bool) : (l.frame active).size = l.size := by
  unfold LineRec.frame
  split <;> rfl

theorem frame_fieldSound {s : State} (h : s.field.Sound) (mics programmes : List Sample) :
    (s.frame mics programmes).field.Sound := by
  have sizes : ∀ k, ((s.frame mics programmes).field.lines.get k).size = (s.field.lines.get k).size := fun k => by
    rw [← State.line, frame_line]
    exact lineFrame_size _ _
  refine ⟨?_, fun k => ?_⟩
  · simpa only [FieldUnit.totalDepth, sizes] using h.1
  · rw [← State.line, frame_line]
    exact afterFrame_sound (lineFrame_sound (line_sound h k) _) _

/-! ### Every command -/

theorem forceSlip_depth (l : LineRec) : l.forceSlip.depth = l.depth := by
  unfold LineRec.forceSlip
  split <;> [rw [slip_kept]; rfl]

theorem readSlip_depth (l : LineRec) : l.readSlip.depth = l.depth := by
  unfold LineRec.readSlip
  split
  · exact forceSlip_depth l
  · split <;> [rw [slip_kept]; rfl]

theorem passThrough_depth (l : LineRec) (x : Sample) : (l.passThrough x).depth = l.depth := by
  unfold LineRec.passThrough
  split <;> rfl

theorem exec_fieldSound {i : Instr} {s t : State} (h : s.field.Sound) (done : exec i s = .next t) : t.field.Sound := by
  have ports : ∀ (s : State) v, s.field.Sound → ({ s with ports := v } : State).field.Sound := fun _ _ h => h
  cases i with
  | fieldStart => exact takeRequest_keeps ports (fun u hu => fieldStart_sound hu _) h done
  | fieldStop => exact takeRequest_keeps ports (fun u hu => fieldStop_sound hu _) h done
  | fieldPark => exact takeRequest_keeps ports (fun u hu => fieldPark_sound hu _) h done
  | setFieldPlan => exact takeRequest_keeps ports (withAuthority_keeps fun u hu => setFieldPlan_sound hu _ _ _ _ _) h done
  | receiverLock k =>
    simp only [exec, execReceiverLock] at done
    split at done <;> obtain rfl := Host.Outcome.next.inj done <;>
      [exact fieldSound_changeLine h _ (lock_sound (line_sound h k)) rfl; exact h]
  | receiverLockLoss k =>
    simp only [exec, execReceiverLockLoss] at done
    split at done <;> obtain rfl := Host.Outcome.next.inj done <;>
      [exact fieldSound_changeLine h _ (loseLock_sound (line_sound h k)) rfl; exact h]
  | stallExpiry k =>
    simp only [exec, execStallExpiry] at done
    split at done <;> obtain rfl := Host.Outcome.next.inj done <;>
      [exact fieldSound_changeLine h _ (loseLock_sound (line_sound h k)) rfl; exact h]
  | acquireExpiry k =>
    simp only [exec, execAcquireExpiry] at done
    split at done <;> obtain rfl := Host.Outcome.next.inj done
    · next acquiring =>
      exact fieldSound_changeLine h _
        (noLock_sound (line_sound h k) (not_receiving_of_state (.inr (.inl acquiring.1)))) rfl
    · exact h
  | retryExpiry k =>
    simp only [exec, execRetryExpiry] at done
    split at done <;> obtain rfl := Host.Outcome.next.inj done
    · next lost =>
      exact fieldSound_changeLine h _
        (acquireFrom_sound (line_sound h k) (not_receiving_of_state (.inr (.inr (.inl lost.1))))) rfl
    · exact h
  | fieldCall k =>
    simp only [exec, execFieldCall] at done
    split at done <;> obtain rfl := Host.Outcome.next.inj done
    · next parked =>
      split
      · refine fieldSound_changeLine (by rwa [postAll_field]) _
          (acquireFrom_sound (line_sound h k) (not_receiving_of_state (.inr (.inr (.inr parked))))) ?_
        rw [postAll_line]; rfl
      · rwa [postAll_field]
    · exact h
  | fieldWrite k x =>
    simp only [exec, execFieldWrite] at done
    split at done
    · obtain rfl := Host.Outcome.next.inj done; exact h
    · split at done
      · next centering =>
        split at done <;> obtain rfl := Host.Outcome.next.inj done
        · next full => exact fieldSound_changeLine h _ (centred_sound (line_sound h k) x full) rfl
        · next low => exact fieldSound_putLine h (write_centering_sound (line_sound h k) centering x low) rfl
      · next locked =>
        obtain rfl := Host.Outcome.next.inj done
        exact fieldSound_putLine h (write_locked_sound (line_sound h k) locked x) (forceSlip_depth _)
      · obtain rfl := Host.Outcome.next.inj done; exact h
  | fieldRead k =>
    simp only [exec, execFieldRead] at done
    split at done
    · obtain rfl := Host.Outcome.next.inj done; exact h
    · split at done <;> obtain rfl := Host.Outcome.next.inj done
      · next locked head => exact fieldSound_putLine h (read_sound (line_sound h k) locked head) (readSlip_depth _)
      · exact h
  | activeReferenceSample k x =>
    simp only [exec, execActiveReferenceSample] at done
    split at done <;> obtain rfl := Host.Outcome.next.inj done
    · next active => exact fieldSound_putLine h (passThrough_sound (line_sound h k) active.2 x) (passThrough_depth _ _)
    · exact h
  | chipReset =>
    rw [chipReset_done done, chipReset_field]
    exact fieldReset_sound
  | mixFrameEvent mics programmes =>
    rw [frame_done done]
    exact frame_fieldSound h mics programmes
  | _ => rw [(exec_kept done).field rfl]; exact h

/-- Settles O58: each operation on a line keeps its record sound, and only SET_FIELD_PLAN changes a depth, within the budget. -/
theorem stepKeepsTheFieldLinesSound : Obligations.StepKeepsTheFieldLinesSound := by
  refine fun s t => step_keeps (P := fun s => s.field.Sound) (fun s l h => h) (fun s h => ?_) fun c s t => exec_fieldSound
  rcases crystalPeriod_cases s with same | ⟨k, -, -, e⟩
  · rwa [same]
  · rw [e]; exact fieldSound_putLine h (ticked_sound (line_sound h k)) rfl

end Sys2Proof.Machine

/-! SUPPORT. The reference unit (08): each of its operations on the record, and O59. -/

namespace Sys2Proof.Machine

/-! ### The record (R155 to R158) -/

/-- What R158's table and R156, R157 say of the record alone. -/
def RefUnit.Settled (r : RefUnit) : Prop :=
  (r.state = .steady → r.selected = r.active ∧ r.deadline = none) ∧
  (r.state = .switching → r.selected ≠ r.active ∧ r.stability r.selected ≠ .stable ∧ r.deadline ≠ none) ∧
  (r.state = .holdover →
    r.selected ≠ r.active ∧ r.active = .crystal ∧ r.stability r.selected ≠ .stable ∧ r.deadline = none) ∧
  r.stability r.active = .stable ∧
  (r.tracked = none → r.field = .absent) ∧
  (r.houseSettle.isSome = true ↔ r.house = .settling) ∧
  (r.fieldSettle.isSome = true ↔ r.field = .settling)

/-- The tracked line is LOCKED exactly while the field stability is not ABSENT (R157). -/
def RefUnit.Follows (r : RefUnit) (state : Line → LineState) : Prop :=
  ∀ k, r.tracked = some k → (state k = .locked ↔ r.field ≠ .absent)

/-- The timers and the tracked line of a record, as R156 and R157 tie them to the stabilities. -/
def RefUnit.Timed (r : RefUnit) : Prop :=
  (r.tracked = none → r.field = .absent) ∧ (r.houseSettle.isSome = true ↔ r.house = .settling) ∧
    (r.fieldSettle.isSome = true ↔ r.field = .settling)

theorem stability_field {r : RefUnit} {k : Line} (h : r.stability (.field k) = .stable) :
    r.tracked = some k ∧ r.field = .stable := by
  by_cases tracked : r.tracked = some k
  · simp only [RefUnit.stability, tracked, if_true] at h
    exact ⟨tracked, h⟩
  · simp [RefUnit.stability, tracked] at h

/-- STEADY on a STABLE source is settled (R158). -/
theorem settleOn_settled {r : RefUnit} {x : RefSource} (timed : r.Timed) (stable : r.stability x = .stable) :
    (r.settleOn x).Settled := by
  obtain ⟨tracked, house, field⟩ := timed
  have same : (r.settleOn x).stability x = .stable := by cases x <;> exact stable
  exact ⟨fun _ => ⟨rfl, rfl⟩, nofun, nofun, same, tracked, house, field⟩

/-- A source that has become STABLE: only a selected source that is not active was waiting for it (R161, R163). -/
theorem becameStable_settled {r : RefUnit} {x : RefSource} (timed : r.Timed) (stable : r.stability x = .stable)
    (active : r.stability r.active = .stable)
    (steady : r.state = .steady → r.selected = r.active ∧ r.deadline = none)
    (switching : r.state = .switching →
      r.selected ≠ r.active ∧ (r.selected ≠ x → r.stability r.selected ≠ .stable) ∧ r.deadline ≠ none)
    (holdover : r.state = .holdover → r.selected ≠ r.active ∧ r.active = .crystal ∧
      (r.selected ≠ x → r.stability r.selected ≠ .stable) ∧ r.deadline = none) : (r.becameStable x).1.Settled := by
  unfold RefUnit.becameStable
  split
  · split
    · exact settleOn_settled timed stable
    · exact settleOn_settled timed stable
    · next state => exact ⟨steady, by simp [state], by simp [state], active, timed⟩
  · next other =>
    exact ⟨steady, fun state => ⟨(switching state).1, (switching state).2.1 other, (switching state).2.2⟩,
      fun state => ⟨(holdover state).1, (holdover state).2.1, (holdover state).2.2.1 other, (holdover state).2.2.2⟩, active, timed⟩

/-- A source that has been lost: the record falls to CRYSTAL where the source was active (R162). -/
theorem lost_settled {r : RefUnit} {x : RefSource} (timed : r.Timed) (gone : r.stability x ≠ .stable) (not_crystal : x ≠ .crystal)
    (active : r.active ≠ x → r.stability r.active = .stable)
    (steady : r.state = .steady → r.selected = r.active ∧ r.deadline = none)
    (switching : r.state = .switching → r.selected ≠ r.active ∧ r.stability r.selected ≠ .stable ∧ r.deadline ≠ none)
    (holdover : r.state = .holdover → r.selected ≠ r.active ∧ r.active = .crystal ∧ r.stability r.selected ≠ .stable ∧
      r.deadline = none) : (r.lost x).1.Settled := by
  unfold RefUnit.lost
  split
  · next was =>
    have waits (y : RefSource) (h : r.stability y ≠ .stable) : y ≠ .crystal := by rintro rfl; exact h rfl
    have same (y : RefSource) (st : RefState) : ({ r with active := .crystal, state := st } : RefUnit).stability y = r.stability y := by
      cases y <;> rfl
    cases state : r.state with
    | steady =>
      obtain ⟨selected, deadline⟩ := steady state
      have gone' : r.stability r.selected ≠ .stable := by rw [selected, was]; exact gone
      exact ⟨nofun, nofun, fun _ => ⟨waits _ gone', rfl, fun e => gone' ((same _ _).symm.trans e), deadline⟩, rfl, timed⟩
    | switching =>
      obtain ⟨-, waiting, deadline⟩ := switching state
      exact ⟨nofun, fun _ => ⟨waits _ waiting, fun e => waiting ((same _ _).symm.trans e), deadline⟩, nofun, rfl, timed⟩
    | holdover =>
      obtain ⟨-, crystal, -⟩ := holdover state
      exact absurd (was.symm.trans crystal) not_crystal
  · next other => exact ⟨steady, switching, holdover, active other, timed⟩

theorem RefUnit.Settled.timed {r : RefUnit} (h : r.Settled) : r.Timed := by
  obtain ⟨-, -, -, -, timed⟩ := h
  exact timed

/-! ### The house reference (R156) -/

theorem stability_house_ne {r : RefUnit} {x : RefSource} (h : x ≠ .house) (st : Stability) (t : Option Nat) :
    ({ r with house := st, houseSettle := t } : RefUnit).stability x = r.stability x := by
  cases x <;> [exact absurd rfl h; rfl; rfl]

/-- A stability that is not STABLE, changed to one that is not, leaves the record settled. -/
theorem house_settled {r : RefUnit} (h : r.Settled) {st : Stability} {t : Option Nat} (was : r.house ≠ .stable)
    (is : st ≠ .stable) (timer : t.isSome = true ↔ st = .settling) : ({ r with house := st, houseSettle := t } : RefUnit).Settled := by
  obtain ⟨steady, switching, holdover, active, tracked, -, field⟩ := h
  have same (x : RefSource) :
      ({ r with house := st, houseSettle := t } : RefUnit).stability x = .stable ↔ r.stability x = .stable := by
    by_cases hx : x = .house
    · subst hx; exact ⟨fun e => absurd e is, fun e => absurd e was⟩
    · rw [stability_house_ne hx]
  refine ⟨steady, fun state => ?_, fun state => ?_, (same _).mpr active, tracked, timer, field⟩
  · obtain ⟨other, waiting, deadline⟩ := switching state
    exact ⟨other, mt (same _).mp waiting, deadline⟩
  · obtain ⟨other, crystal, waiting, deadline⟩ := holdover state
    exact ⟨other, crystal, mt (same _).mp waiting, deadline⟩

theorem housePresent_settled {r : RefUnit} (h : r.Settled) : r.housePresent.Settled := by
  unfold RefUnit.housePresent
  split
  · next absent => exact house_settled h (by simp [absent]) nofun (by simp)
  · exact h

theorem houseGone_settled {r : RefUnit} (h : r.Settled) : r.houseGone.1.Settled := by
  unfold RefUnit.houseGone
  split
  · exact h
  · obtain ⟨steady, switching, holdover, active, tracked, -, field⟩ := h
    have weaker (x : RefSource) (st : r.stability x ≠ .stable) :
        ({ r with house := .absent, houseSettle := none } : RefUnit).stability x ≠ .stable := by
      by_cases hx : x = .house
      · subst hx; nofun
      · rwa [stability_house_ne hx]
    refine lost_settled ⟨tracked, by simp, field⟩ nofun nofun (fun other => by rwa [stability_house_ne other]) steady ?_ ?_
    · exact fun state => ⟨(switching state).1, weaker _ (switching state).2.1, (switching state).2.2⟩
    · exact fun state =>
        ⟨(holdover state).1, (holdover state).2.1, weaker _ (holdover state).2.2.1, (holdover state).2.2.2⟩

theorem houseSettled_settled {r : RefUnit} (h : r.Settled) :
    (RefUnit.becameStable { r with house := .stable, houseSettle := none } .house).1.Settled := by
  obtain ⟨steady, switching, holdover, active, tracked, -, field⟩ := h
  refine becameStable_settled ⟨tracked, by simp, field⟩ rfl ?_ steady ?_ ?_
  · by_cases hx : r.active = .house
    · rw [hx]; rfl
    · rwa [stability_house_ne hx]
  · exact fun state => ⟨(switching state).1, fun hx => by rw [stability_house_ne hx]; exact (switching state).2.1,
      (switching state).2.2⟩
  · exact fun state => ⟨(holdover state).1, (holdover state).2.1,
      fun hx => by rw [stability_house_ne hx]; exact (holdover state).2.2.1, (holdover state).2.2.2⟩

/-! ### The tracked line (R157) -/

theorem stability_field_ne {r : RefUnit} {k : Line} (tracked : r.tracked = some k) {x : RefSource} (h : x ≠ .field k) (st : Stability)
    (t : Option Nat) : ({ r with field := st, fieldSettle := t } : RefUnit).stability x = r.stability x := by
  cases x with
  | field j =>
    have other : k ≠ j := fun e => h (e ▸ rfl)
    simp [RefUnit.stability, tracked, other]
  | _ => rfl

theorem stability_tracked {r : RefUnit} {k : Line} (tracked : r.tracked = some k) : r.stability (.field k) = r.field := by
  simp [RefUnit.stability, tracked]

theorem trackedEnters_settled {r : RefUnit} (h : r.Settled) {k : Line} (tracked : r.tracked = some k) (absent : r.field = .absent) :
    r.trackedEnters.Settled := by
  obtain ⟨steady, switching, holdover, active, -, house, -⟩ := h
  have same (x : RefSource) : r.trackedEnters.stability x = .stable ↔ r.stability x = .stable := by
    by_cases hx : x = .field k
    · subst hx
      rw [stability_tracked tracked, absent, stability_tracked (r := r.trackedEnters) tracked]
      exact ⟨nofun, nofun⟩
    · rw [RefUnit.trackedEnters, stability_field_ne tracked hx]
  refine ⟨steady, fun state => ?_, fun state => ?_, (same _).mpr active, fun free => ?_, house, by simp [RefUnit.trackedEnters]⟩
  · obtain ⟨other, waiting, deadline⟩ := switching state
    exact ⟨other, mt (same _).mp waiting, deadline⟩
  · obtain ⟨other, crystal, waiting, deadline⟩ := holdover state
    exact ⟨other, crystal, mt (same _).mp waiting, deadline⟩
  · have free : r.tracked = none := free
    simp [tracked] at free

theorem trackedLeaves_settled {r : RefUnit} (h : r.Settled) {k : Line} (tracked : r.tracked = some k) :
    (r.trackedLeaves k).1.Settled := by
  obtain ⟨steady, switching, holdover, active, -, house, -⟩ := h
  have gone : ({ r with field := .absent, fieldSettle := none } : RefUnit).stability (.field k) ≠ .stable := by
    simp [RefUnit.stability, tracked]
  have weaker (x : RefSource) (st : r.stability x ≠ .stable) :
      ({ r with field := .absent, fieldSettle := none } : RefUnit).stability x ≠ .stable := by
    by_cases hx : x = .field k
    · subst hx; exact gone
    · rwa [stability_field_ne tracked hx]
  refine lost_settled ⟨fun _ => rfl, house, by simp⟩ gone nofun (fun other => by rwa [stability_field_ne tracked other]) steady ?_ ?_
  · exact fun state => ⟨(switching state).1, weaker _ (switching state).2.1, (switching state).2.2⟩
  · exact fun state => ⟨(holdover state).1, (holdover state).2.1, weaker _ (holdover state).2.2.1, (holdover state).2.2.2⟩

theorem fieldSettled_settled {r : RefUnit} (h : r.Settled) : r.fieldSettled.1.Settled := by
  unfold RefUnit.fieldSettled
  split
  · next k tracked =>
    obtain ⟨steady, switching, holdover, active, -, house, -⟩ := h
    have stable : ({ r with field := .stable, fieldSettle := none } : RefUnit).stability (.field k) = .stable :=
      stability_tracked tracked
    refine becameStable_settled ⟨fun free => ?_, house, by simp⟩ stable ?_ steady ?_ ?_
    · have free : r.tracked = none := free
      simp [tracked] at free
    · by_cases hx : r.active = .field k
      · rw [hx]; exact stable
      · rwa [stability_field_ne tracked hx]
    · exact fun state => ⟨(switching state).1, fun hx => by rw [stability_field_ne tracked hx]; exact (switching state).2.1,
        (switching state).2.2⟩
    · exact fun state => ⟨(holdover state).1, (holdover state).2.1,
        fun hx => by rw [stability_field_ne tracked hx]; exact (holdover state).2.2.1, (holdover state).2.2.2⟩
  · exact h

/-! ### Selection (R159, R160, R161) -/

theorem judge_settled {r : RefUnit} (h : r.Settled) (x : RefSource) : (r.judge x).1.1.Settled := by
  have timed := h.timed
  obtain ⟨-, -, -, active, -⟩ := h
  unfold RefUnit.judge
  dsimp only
  split
  · next same =>
    have settled := settleOn_settled (x := x) timed (same ▸ active)
    split <;> exact settled
  · next other =>
    split
    · next stable => exact settleOn_settled timed stable
    · next waits => exact ⟨nofun, fun _ => ⟨other, waits, nofun⟩, nofun, active, timed⟩

/-- The choice that is not bound by the active line: where a retune changes the loop, no field line is active (R159). -/
theorem retune_settled {r : RefUnit} (h : r.Settled) {j : Line} (free : r.bound (.field j) = none) (locked : Bool) :
    (r.retune j locked).Settled := by
  unfold RefUnit.retune
  split
  · exact h
  · next other =>
    obtain ⟨steady, switching, holdover, active, -, house, -⟩ := h
    have not_field : ∀ k, r.active ≠ .field k := by
      intro k on
      have same : j = k := by simpa [RefUnit.bound, on] using free
      rw [on] at active
      exact other (same ▸ (stability_field active).1)
    have weaker (x : RefSource) (st : r.stability x ≠ .stable) : ({ r with
        tracked := some j, field := if locked then .settling else .absent,
        fieldSettle := if locked then some Config.stabilityFrames else none } : RefUnit).stability x ≠ .stable := by
      cases x with
      | field k => unfold RefUnit.stability; cases locked <;> (dsimp only; split <;> nofun)
      | _ => exact st
    have kept : ({ r with
        tracked := some j, field := if locked then .settling else .absent,
        fieldSettle := if locked then some Config.stabilityFrames else none } : RefUnit).stability r.active = .stable := by
      cases on : r.active with
      | field k => exact absurd on (not_field k)
      | _ => rw [on] at active; exact active
    refine ⟨steady, fun state => ?_, fun state => ?_, kept, nofun, house, ?_⟩
    · exact ⟨(switching state).1, weaker _ (switching state).2.1, (switching state).2.2⟩
    · exact ⟨(holdover state).1, (holdover state).2.1, weaker _ (holdover state).2.2.1, (holdover state).2.2.2⟩
    · cases locked <;> simp

theorem deadline_settled {r : RefUnit} (h : r.Settled) : (r.settleOn r.active).Settled := by
  have timed := h.timed
  obtain ⟨-, -, -, active, -⟩ := h
  exact settleOn_settled timed active

theorem refFrame_settled {r : RefUnit} (h : r.Settled) : r.frame.Settled := by
  obtain ⟨steady, switching, holdover, active, tracked, house, field⟩ := h
  have same (x : RefSource) : r.frame.stability x = r.stability x := by cases x <;> rfl
  refine ⟨fun state => ⟨(steady state).1, ?_⟩, fun state => ?_, fun state => ?_, (same _).trans active, tracked, ?_, ?_⟩
  · simp [RefUnit.frame, tick, (steady state).2]
  · obtain ⟨other, waiting, deadline⟩ := switching state
    exact ⟨other, by rw [same]; exact waiting, by simpa [RefUnit.frame, tick] using deadline⟩
  · obtain ⟨other, crystal, waiting, deadline⟩ := holdover state
    exact ⟨other, crystal, by rw [same]; exact waiting, by simp [RefUnit.frame, tick, deadline]⟩
  · simpa [RefUnit.frame, tick_isSome] using house
  · simpa [RefUnit.frame, tick_isSome] using field

theorem refReset_settled (b : Bool) : (RefUnit.reset b).Settled := by
  simp [RefUnit.Settled, RefUnit.reset, RefUnit.stability]

end Sys2Proof.Machine

/-! SUPPORT. The reference unit (08) command by command, with the lines it follows, and O59. -/

namespace Sys2Proof.Machine

/-! ### While NRESET is released -/

/-- The state of each line. -/
def State.lineStates (s : State) : Line → LineState := fun k => (s.line k).state

/-- What R155 to R158 say of the reference record while NRESET is released. -/
def ReferenceUp (s : State) : Prop :=
  s.reference.Settled ∧ s.reference.Follows s.lineStates ∧
    (s.reference.houseInput = true ↔ s.reference.house ≠ .absent)

/-- What they say while it is asserted (R21, R131). -/
def ReferenceDown (s : State) : Prop :=
  (∀ k, (s.line k).state = .idle) ∧ s.reference = RefUnit.reset s.reference.houseInput

theorem referenceSound_iff (s : State) :
    LinesDownInReset s ∧ ReferenceSound s ↔
      (s.nresetLow = false → ReferenceUp s) ∧ (s.nresetLow = true → ReferenceDown s) := by
  constructor
  · rintro ⟨lines, steady, switching, holdover, active, -, tracked, follows, house, field, reset, input⟩
    exact ⟨fun up => ⟨⟨steady, switching, holdover, active, tracked, house, field⟩, follows, input up⟩,
      fun low => ⟨lines low, reset low⟩⟩
  · rintro ⟨up, down⟩
    have settled : s.reference.Settled ∧ s.reference.Follows s.lineStates := by
      cases low : s.nresetLow with
      | false => exact ⟨(up low).1, (up low).2.1⟩
      | true =>
        obtain ⟨-, reset⟩ := down low
        rw [reset]
        exact ⟨refReset_settled _, nofun⟩
    obtain ⟨⟨steady, switching, holdover, active, tracked, house, field⟩, follows⟩ := settled
    refine ⟨fun low => (down low).1, steady, switching, holdover, active, fun k on => ?_, tracked, follows, house, field,
      fun low => (down low).2, fun released => (up released).2.2⟩
    rw [on] at active
    obtain ⟨same, stable⟩ := stability_field active
    exact ⟨same, (follows k same).mpr (by simp [stable])⟩

/-- What the steps of the record leave unchanged, apart from its choice and its deadline. -/
theorem becameStable_kept (r : RefUnit) (x : RefSource) :
    (r.becameStable x).1.tracked = r.tracked ∧ (r.becameStable x).1.field = r.field ∧
      (r.becameStable x).1.houseInput = r.houseInput ∧ (r.becameStable x).1.house = r.house := by
  unfold RefUnit.becameStable
  split
  · split <;> exact ⟨rfl, rfl, rfl, rfl⟩
  · exact ⟨rfl, rfl, rfl, rfl⟩

theorem lost_kept (r : RefUnit) (x : RefSource) :
    (r.lost x).1.tracked = r.tracked ∧ (r.lost x).1.field = r.field ∧ (r.lost x).1.houseInput = r.houseInput ∧
      (r.lost x).1.house = r.house := by
  unfold RefUnit.lost
  split <;> exact ⟨rfl, rfl, rfl, rfl⟩

theorem judge_kept (r : RefUnit) (x : RefSource) :
    (r.judge x).1.1.tracked = r.tracked ∧ (r.judge x).1.1.field = r.field ∧ (r.judge x).1.1.houseInput = r.houseInput ∧
      (r.judge x).1.1.house = r.house := by
  unfold RefUnit.judge
  dsimp only
  split
  · split <;> exact ⟨rfl, rfl, rfl, rfl⟩
  · split <;> exact ⟨rfl, rfl, rfl, rfl⟩

section Up
variable {s : State}

theorem setReference_reference (s : State) (x : RefStep) : (s.setReference x).reference = x.1 := by rw [setReference_eq]

theorem setReference_lineStates (s : State) (x : RefStep) : (s.setReference x).lineStates = s.lineStates := by
  rw [setReference_eq]; rfl

/-- A step of the reference unit that keeps the tracked line's stability and the house's. -/
theorem referenceUp_setReference (h : ReferenceUp s) {x : RefStep} (settled : x.1.Settled)
    (kept : x.1.tracked = s.reference.tracked ∧ (x.1.field ≠ .absent ↔ s.reference.field ≠ .absent))
    (house : x.1.houseInput = s.reference.houseInput ∧ (x.1.house ≠ .absent ↔ s.reference.house ≠ .absent)) :
    ReferenceUp (s.setReference x) := by
  obtain ⟨-, follows, input⟩ := h
  rw [ReferenceUp, setReference_reference, setReference_lineStates]
  refine ⟨settled, fun k tracked => ?_, ?_⟩
  · rw [kept.2]
    exact follows k (kept.1 ▸ tracked)
  · rw [house.1, house.2]
    exact input

/-! ### Lines -/

/-- A line that keeps its state. -/
theorem referenceUp_putLine (h : ReferenceUp s) {k : Line} {l : LineRec} (same : l.state = (s.line k).state) :
    ReferenceUp (s.putLine k l) := by
  have states : (s.putLine k l).lineStates = s.lineStates := by
    funext j
    rw [State.lineStates, line_putLine]
    split
    · next e => subst e; exact same
    · rfl
  rw [ReferenceUp, states]
  exact h

theorem changeLine_reference (s : State) (k : Line) (l : LineRec) (c : LineCause) :
    (s.changeLine k l c).reference =
      if s.reference.tracked = some k then
        if (s.line k).state ≠ .locked ∧ l.state = .locked then s.reference.trackedEnters
        else if (s.line k).state = .locked ∧ l.state ≠ .locked then (s.reference.trackedLeaves k).1
        else s.reference
      else s.reference := by
  simp only [State.changeLine, State.reportTracked, postAll_reference, putLine_reference]
  split
  · split
    · rfl
    · split
      · rw [setReference_reference]
      · rw [postAll_reference, putLine_reference]
  · rw [postAll_reference, putLine_reference]

theorem changeLine_lineStates (s : State) (k : Line) (l : LineRec) (c : LineCause) (j : Line) :
    (s.changeLine k l c).lineStates j = if j = k then l.state else s.lineStates j := by
  rw [State.lineStates, changeLine_line]
  split <;> rfl

/-- A line's change of state reaches the reference unit where it enters or leaves LOCKED while tracked (R154, R157). -/
theorem referenceUp_changeLine (h : ReferenceUp s) (k : Line) (l : LineRec) (c : LineCause) :
    ReferenceUp (s.changeLine k l c) := by
  obtain ⟨settled, follows, input⟩ := h
  have states := changeLine_lineStates s k l c
  rw [ReferenceUp, changeLine_reference]
  split
  · next tracked =>
    have before := follows k tracked
    change (s.line k).state = .locked ↔ _ at before
    split
    · next enters =>
      have absent : s.reference.field = .absent := by simpa [enters.1] using before
      refine ⟨trackedEnters_settled settled tracked absent, fun j same => ?_, input⟩
      obtain rfl : k = j := Option.some.inj (tracked.symm.trans same)
      rw [states, if_pos rfl]
      simp [RefUnit.trackedEnters, enters.2]
    · split
      · next leaves =>
        obtain ⟨same_line, absent, same_input, same_house⟩ :=
          lost_kept { s.reference with field := .absent, fieldSettle := none } (.field k)
        refine ⟨trackedLeaves_settled settled tracked, fun j same => ?_, ?_⟩
        · obtain rfl : k = j := Option.some.inj (tracked.symm.trans (same_line.symm.trans same))
          rw [states, if_pos rfl, RefUnit.trackedLeaves, absent]
          simp [leaves.2]
        · rw [RefUnit.trackedLeaves, same_input, same_house]
          exact input
      · next enters leaves =>
        refine ⟨settled, fun j same => ?_, input⟩
        obtain rfl : k = j := Option.some.inj (tracked.symm.trans same)
        rw [states, if_pos rfl, ← before]
        tauto
  · next other =>
    refine ⟨settled, fun j same => ?_, input⟩
    rw [states, if_neg (by rintro rfl; exact other same)]
    exact follows j same

/-! ### The requests -/

theorem fieldStart_referenceUp (h : ReferenceUp s) (p : Port) (line : Byte) : ReferenceUp (fieldStart p line s).1 := by
  unfold fieldStart
  split
  · exact h
  · split
    · exact h
    · split <;> [exact referenceUp_changeLine h _ _ _; exact h]

theorem fieldStop_referenceUp (h : ReferenceUp s) (p : Port) (line : Byte) : ReferenceUp (fieldStop p line s).1 := by
  unfold fieldStop
  split
  · exact h
  · split
    · exact h
    · split
      · exact h
      · split <;> [exact h; exact referenceUp_changeLine h _ _ _]

theorem fieldPark_referenceUp (h : ReferenceUp s) (p : Port) (line : Byte) : ReferenceUp (fieldPark p line s).1 := by
  unfold fieldPark
  split
  · exact h
  · split
    · exact h
    · split
      · exact h
      · split
        · exact h
        · split <;> [exact h; exact referenceUp_changeLine h _ _ _]

theorem setFieldPlan_referenceUp (h : ReferenceUp s) (line depth quiet autoWake acquire : Byte) :
    ReferenceUp (setFieldPlan line depth quiet autoWake acquire s).1 := by
  unfold setFieldPlan
  split
  · exact h
  · dsimp only
    split
    · exact h
    · split <;> [exact h; exact referenceUp_putLine h rfl]

/-- The record after the retune that a choice makes first (R157, R159). -/
theorem retuned_up (h : ReferenceUp s) {x : RefSource} (free : s.reference.bound x = none) :
    (s.retuned x).Settled ∧ (s.retuned x).Follows s.lineStates ∧ (s.retuned x).houseInput = s.reference.houseInput ∧
      (s.retuned x).house = s.reference.house := by
  obtain ⟨settled, follows, -⟩ := h
  cases x with
  | field j =>
    refine ⟨retune_settled settled free _, ?_⟩
    simp only [State.retuned, RefUnit.retune]
    split
    · exact ⟨follows, rfl, rfl⟩
    · refine ⟨fun k same => ?_, rfl, rfl⟩
      obtain rfl : j = k := Option.some.inj same
      change (s.line j).state = .locked ↔ _
      by_cases locked : (s.line j).state = .locked <;> simp [locked]
  | house => exact ⟨settled, follows, rfl, rfl⟩
  | crystal => exact ⟨settled, follows, rfl, rfl⟩

theorem selectReference_referenceUp (h : ReferenceUp s) (choice : Byte) : ReferenceUp (selectReference choice s).1 := by
  unfold selectReference
  split
  · exact h
  · next x _ =>
    split
    · exact h
    · next free =>
      obtain ⟨settled, follows, same_input, same_house⟩ := retuned_up h free
      obtain ⟨tracked, field, input, house⟩ := judge_kept (s.retuned x) x
      dsimp only
      rw [ReferenceUp, setReference_reference, setReference_lineStates]
      refine ⟨judge_settled settled x, fun k same => ?_, ?_⟩
      · rw [field]
        exact follows k (tracked ▸ same)
      · rw [input, same_input, house, same_house]
        exact h.2.2

/-! ### The reference unit's events -/

theorem housePresent_up (h : ReferenceUp s) :
    ReferenceUp { s with reference := { s.reference with houseInput := true : RefUnit }.housePresent } := by
  obtain ⟨settled, follows, -⟩ := h
  refine ⟨housePresent_settled (r := { s.reference with houseInput := true }) settled, ?_⟩
  dsimp only
  unfold RefUnit.housePresent
  split
  · exact ⟨follows, by simp⟩
  · next present => exact ⟨follows, by simpa using present⟩

theorem houseGone_up (h : ReferenceUp s) :
    ReferenceUp (s.setReference (RefUnit.houseGone { s.reference with houseInput := false })) := by
  obtain ⟨settled, follows, -⟩ := h
  have settled' := houseGone_settled (r := { s.reference with houseInput := false }) settled
  rw [ReferenceUp, setReference_reference, setReference_lineStates]
  refine ⟨settled', ?_⟩
  unfold RefUnit.houseGone
  split
  · next absent => exact ⟨follows, by simpa using absent⟩
  · obtain ⟨tracked, field, input, house⟩ :=
      lost_kept { s.reference with houseInput := false, house := .absent, houseSettle := none } .house
    refine ⟨fun k same => ?_, ?_⟩
    · rw [field]
      exact follows k (tracked.symm.trans same)
    · rw [input, house]
      simp

theorem houseSettled_up (h : ReferenceUp s) (settling : s.reference.house = .settling) :
    ReferenceUp (s.setReference (RefUnit.becameStable { s.reference with house := .stable, houseSettle := none } .house)) := by
  obtain ⟨tracked, field, input, house⟩ := becameStable_kept { s.reference with house := .stable, houseSettle := none } .house
  refine referenceUp_setReference h (houseSettled_settled h.1) ⟨tracked, by rw [field]⟩ ⟨input, ?_⟩
  rw [house, settling]
  simp

theorem fieldSettled_up (h : ReferenceUp s) (settling : s.reference.field = .settling) :
    ReferenceUp (s.setReference s.reference.fieldSettled) := by
  have settled := fieldSettled_settled h.1
  refine referenceUp_setReference h settled ?_ ?_ <;> unfold RefUnit.fieldSettled <;> split
  · next k _ =>
    obtain ⟨tracked, field, -⟩ := becameStable_kept { s.reference with field := .stable, fieldSettle := none } (.field k)
    refine ⟨tracked, ?_⟩
    rw [field, settling]
    simp
  · exact ⟨rfl, Iff.rfl⟩
  · next k _ =>
    obtain ⟨-, -, input, house⟩ := becameStable_kept { s.reference with field := .stable, fieldSettle := none } (.field k)
    exact ⟨input, by rw [house]⟩
  · exact ⟨rfl, Iff.rfl⟩

theorem frame_lineStates (s : State) (mics programmes : List Sample) : (s.frame mics programmes).lineStates = s.lineStates := by
  funext k
  rw [State.lineStates, frame_line]
  exact lineFrame_state _ _

theorem forceSlip_state (l : LineRec) : l.forceSlip.state = l.state := by
  unfold LineRec.forceSlip
  split <;> [rw [slip_kept]; rfl]

theorem readSlip_state (l : LineRec) : l.readSlip.state = l.state := by
  unfold LineRec.readSlip
  split
  · exact forceSlip_state l
  · split <;> [rw [slip_kept]; rfl]

theorem passThrough_state (l : LineRec) (x : Sample) : (l.passThrough x).state = l.state := by
  unfold LineRec.passThrough
  split <;> rfl

end Up

end Sys2Proof.Machine

/-! SUPPORT. Every command on the reference unit and the lines it follows, with NRESET released and asserted, and O59. -/

namespace Sys2Proof.Machine

theorem lineStates_congr {s t : State} (field : t.field = s.field) : t.lineStates = s.lineStates := by
  funext k
  simp only [State.lineStates, State.line, field]

theorem ReferenceUp.congr {s t : State} (h : ReferenceUp s) (field : t.field = s.field) (reference : t.reference = s.reference) :
    ReferenceUp t := by
  rw [ReferenceUp, lineStates_congr field, reference]
  exact h

theorem ReferenceDown.congr {s t : State} (h : ReferenceDown s) (field : t.field = s.field)
    (reference : t.reference = s.reference) : ReferenceDown t := by
  obtain ⟨idle, reset⟩ := h
  exact ⟨fun k => (congrFun (lineStates_congr field) k).trans (idle k), by rw [reference]; exact reset⟩

/-- Every command but a chip reset keeps the record sound while NRESET is released. -/
theorem exec_referenceUp {i : Instr} {s t : State} (released : i ≠ .chipReset) (h : ReferenceUp s) (up : s.nresetLow = false)
    (done : exec i s = .next t) : ReferenceUp t := by
  have ports : ∀ (s : State) v, ReferenceUp s → ReferenceUp { s with ports := v } := fun _ _ h => h
  cases i with
  | chipReset => exact absurd rfl released
  | fieldStart => exact takeRequest_keeps ports (fun u hu => fieldStart_referenceUp hu _ _) h done
  | fieldStop => exact takeRequest_keeps ports (fun u hu => fieldStop_referenceUp hu _ _) h done
  | fieldPark => exact takeRequest_keeps ports (fun u hu => fieldPark_referenceUp hu _ _) h done
  | setFieldPlan => exact takeRequest_keeps ports (withAuthority_keeps fun u hu => setFieldPlan_referenceUp hu _ _ _ _ _) h done
  | selectReference => exact takeRequest_keeps ports (withAuthority_keeps fun u hu => selectReference_referenceUp hu _) h done
  | receiverLock k =>
    simp only [exec, execReceiverLock] at done
    split at done <;> obtain rfl := Host.Outcome.next.inj done <;> [exact referenceUp_changeLine h _ _ _; exact h]
  | receiverLockLoss k =>
    simp only [exec, execReceiverLockLoss] at done
    split at done <;> obtain rfl := Host.Outcome.next.inj done <;> [exact referenceUp_changeLine h _ _ _; exact h]
  | stallExpiry k =>
    simp only [exec, execStallExpiry] at done
    split at done <;> obtain rfl := Host.Outcome.next.inj done <;> [exact referenceUp_changeLine h _ _ _; exact h]
  | acquireExpiry k =>
    simp only [exec, execAcquireExpiry] at done
    split at done <;> obtain rfl := Host.Outcome.next.inj done <;> [exact referenceUp_changeLine h _ _ _; exact h]
  | retryExpiry k =>
    simp only [exec, execRetryExpiry] at done
    split at done <;> obtain rfl := Host.Outcome.next.inj done <;> [exact referenceUp_changeLine h _ _ _; exact h]
  | fieldCall k =>
    simp only [exec, execFieldCall] at done
    split at done <;> obtain rfl := Host.Outcome.next.inj done
    · have posted : ∀ xs, ReferenceUp (s.postAll xs) := fun xs => by rw [postAll_eq]; exact h
      split <;> [exact referenceUp_changeLine (posted _) _ _ _; exact posted _]
    · exact h
  | fieldWrite k x =>
    simp only [exec, execFieldWrite] at done
    split at done
    · obtain rfl := Host.Outcome.next.inj done; exact h
    · split at done
      · split at done <;> obtain rfl := Host.Outcome.next.inj done <;>
          [exact referenceUp_changeLine h _ _ _; exact referenceUp_putLine h rfl]
      · obtain rfl := Host.Outcome.next.inj done
        exact referenceUp_putLine h (forceSlip_state _)
      · obtain rfl := Host.Outcome.next.inj done; exact h
  | fieldRead k =>
    simp only [exec, execFieldRead] at done
    split at done
    · obtain rfl := Host.Outcome.next.inj done; exact h
    · split at done <;> obtain rfl := Host.Outcome.next.inj done <;> [exact referenceUp_putLine h (readSlip_state _); exact h]
  | activeReferenceSample k x =>
    simp only [exec, execActiveReferenceSample] at done
    split at done <;> obtain rfl := Host.Outcome.next.inj done <;> [exact referenceUp_putLine h (passThrough_state _ _); exact h]
  | housePresence =>
    obtain rfl := Host.Outcome.next.inj done
    rw [if_neg (by simp [up])]
    exact housePresent_up h
  | houseAbsence =>
    obtain rfl := Host.Outcome.next.inj done
    exact houseGone_up h
  | houseSettleExpiry =>
    simp only [exec, execHouseSettleExpiry] at done
    split at done <;> obtain rfl := Host.Outcome.next.inj done
    · next settling => exact houseSettled_up h settling.1
    · exact h
  | fieldSettleExpiry =>
    simp only [exec, execFieldSettleExpiry] at done
    split at done <;> obtain rfl := Host.Outcome.next.inj done
    · next settling => exact fieldSettled_up h settling.1
    · exact h
  | switchDeadlineExpiry =>
    simp only [exec, execSwitchDeadlineExpiry] at done
    split at done <;> obtain rfl := Host.Outcome.next.inj done
    · exact referenceUp_setReference h (deadline_settled h.1) ⟨rfl, Iff.rfl⟩ ⟨rfl, Iff.rfl⟩
    · exact h
  | nresetRelease =>
    obtain rfl := Host.Outcome.next.inj done
    rw [if_neg (by simp [up])]
    exact h
  | mixFrameEvent mics programmes =>
    obtain ⟨settled, follows, input⟩ := h
    rw [frame_done done, ReferenceUp, frame_reference, frame_lineStates]
    exact ⟨refFrame_settled settled, follows, input⟩
  | _ =>
    have kept := exec_kept done
    exact h.congr (kept.field rfl) (kept.reference rfl)

/-! ### While NRESET is asserted -/

theorem chipReset_down (s : State) : ReferenceDown s.chipReset := by
  refine ⟨fun k => ?_, ?_⟩
  · rw [State.line, chipReset_field]
    simp [FieldUnit.reset, LineRec.reset]
  · simp only [State.chipReset, RefUnit.reset]

/-- The release of NRESET reads the house input (R156). -/
theorem releaseNreset_up {s : State} (h : ReferenceDown s) : ReferenceUp s.releaseNreset := by
  obtain ⟨-, reset⟩ := h
  have reference : s.releaseNreset.reference =
      if s.reference.houseInput then s.reference.housePresent else s.reference := by simp only [State.releaseNreset]
  rw [ReferenceUp, reference, reset]
  have settled := refReset_settled s.reference.houseInput
  cases s.reference.houseInput with
  | false => exact ⟨settled, nofun, by simp [RefUnit.reset]⟩
  | true => exact ⟨housePresent_settled settled, nofun, by simp [RefUnit.reset, RefUnit.housePresent]⟩

theorem refReset_frame (b : Bool) : (RefUnit.reset b).frame = RefUnit.reset b := rfl

/-- While NRESET is asserted no request is taken and no timer runs; the pin of the house input alone moves (R21, R156). -/
theorem exec_referenceDown {i : Instr} {s t : State} (released : i ≠ .nresetRelease) (ports : PortsSound s) (h : ReferenceDown s)
    (low : s.nresetLow = true) (done : exec i s = .next t) : ReferenceDown t := by
  obtain ⟨idle, reset⟩ := id h
  have none_taken {p : Port} {i : Instr} {act : State → State × Answer} (done : takeRequest s p i act = .next t) : t = s := by
    rcases takeRequest_cases done with ⟨-, same⟩ | ⟨tag, spelled, -⟩
    · exact same
    · have up := (spelled_of_sound ports spelled).1
      simp [low] at up
  have house : s.reference.house = .absent := by rw [reset]; rfl
  have field : s.reference.field = .absent := by rw [reset]; rfl
  have state : s.reference.state = .holdover := by rw [reset]; rfl
  cases i with
  | nresetRelease => exact absurd rfl released
  | fieldStart => rw [none_taken done]; exact h
  | fieldStop => rw [none_taken done]; exact h
  | fieldPark => rw [none_taken done]; exact h
  | setFieldPlan => rw [none_taken done]; exact h
  | selectReference => rw [none_taken done]; exact h
  | receiverLock k =>
    simp only [exec, execReceiverLock, idle, reduceCtorEq, if_false] at done
    rw [← Host.Outcome.next.inj done]; exact h
  | receiverLockLoss k =>
    simp only [exec, execReceiverLockLoss, LineRec.receiving, idle] at done
    rw [← Host.Outcome.next.inj done]; exact h
  | stallExpiry k =>
    simp only [exec, execStallExpiry, LineRec.receiving, idle] at done
    rw [← Host.Outcome.next.inj done]; exact h
  | acquireExpiry k =>
    simp only [exec, execAcquireExpiry, idle, reduceCtorEq, false_and, if_false] at done
    rw [← Host.Outcome.next.inj done]; exact h
  | retryExpiry k =>
    simp only [exec, execRetryExpiry, idle, reduceCtorEq, false_and, if_false] at done
    rw [← Host.Outcome.next.inj done]; exact h
  | fieldCall k =>
    simp only [exec, execFieldCall, idle, reduceCtorEq, if_false] at done
    rw [← Host.Outcome.next.inj done]; exact h
  | fieldWrite k x =>
    simp only [exec, execFieldWrite, idle, ite_self] at done
    rw [← Host.Outcome.next.inj done]; exact h
  | fieldRead k =>
    simp only [exec, execFieldRead] at done
    split at done
    · rw [← Host.Outcome.next.inj done]; exact h
    · split at done
      · next locked _ => simp [idle] at locked
      · rw [← Host.Outcome.next.inj done]; exact h
  | activeReferenceSample k x =>
    simp only [exec, execActiveReferenceSample, idle, reduceCtorEq, and_false, if_false] at done
    rw [← Host.Outcome.next.inj done]; exact h
  | housePresence =>
    obtain rfl := Host.Outcome.next.inj done
    rw [if_pos low]
    exact ⟨idle, by dsimp only; rw [reset]; rfl⟩
  | houseAbsence =>
    obtain rfl := Host.Outcome.next.inj done
    have gone : RefUnit.houseGone { s.reference with houseInput := false } = ({ s.reference with houseInput := false }, []) := by
      simp [RefUnit.houseGone, house]
    rw [gone]
    exact ⟨idle, by change ({ s.reference with houseInput := false } : RefUnit) = _; rw [reset]; rfl⟩
  | houseSettleExpiry =>
    simp only [exec, execHouseSettleExpiry, house, reduceCtorEq, false_and, if_false] at done
    rw [← Host.Outcome.next.inj done]; exact h
  | fieldSettleExpiry =>
    simp only [exec, execFieldSettleExpiry, field, reduceCtorEq, false_and, if_false] at done
    rw [← Host.Outcome.next.inj done]; exact h
  | switchDeadlineExpiry =>
    simp only [exec, execSwitchDeadlineExpiry, state, reduceCtorEq, false_and, if_false] at done
    rw [← Host.Outcome.next.inj done]; exact h
  | chipReset =>
    rw [chipReset_done done]
    exact chipReset_down s
  | mixFrameEvent mics programmes =>
    rw [frame_done done, ReferenceDown, frame_reference, reset, refReset_frame]
    exact ⟨fun k => (congrFun (frame_lineStates s mics programmes) k).trans (idle k), rfl⟩
  | _ =>
    have kept := exec_kept done
    exact h.congr (kept.field rfl) (kept.reference rfl)

/-- Whether NRESET is asserted after a command (R21). -/
theorem nresetLow_of_exec {i : Instr} {s t : State} (reset : i ≠ .chipReset) (released : i ≠ .nresetRelease)
    (done : exec i s = .next t) : t.nresetLow = s.nresetLow := by
  refine (exec_kept done).nreset ?_
  cases i <;> first | rfl | contradiction

theorem nresetRelease_done {s t : State} (done : exec .nresetRelease s = .next t) :
    t = if s.nresetLow then s.releaseNreset else s := (Host.Outcome.next.inj done).symm

theorem exec_referenceSound {i : Instr} {s t : State} (ports : PortsSound s)
    (h : (s.nresetLow = false → ReferenceUp s) ∧ (s.nresetLow = true → ReferenceDown s)) (done : exec i s = .next t) :
    (t.nresetLow = false → ReferenceUp t) ∧ (t.nresetLow = true → ReferenceDown t) := by
  obtain ⟨up, down⟩ := h
  by_cases reset : i = .chipReset
  · subst reset
    rw [chipReset_done done]
    exact ⟨nofun, fun _ => chipReset_down s⟩
  · by_cases released : i = .nresetRelease
    · subst released
      rw [nresetRelease_done done]
      cases low : s.nresetLow with
      | false => exact ⟨fun _ => up low, fun e => by simp [low] at e⟩
      | true => exact ⟨fun _ => releaseNreset_up (down low), nofun⟩
    · rw [nresetLow_of_exec reset released done]
      exact ⟨fun low => exec_referenceUp reset (up low) low done, fun low => exec_referenceDown released ports (down low) low done⟩

/-- Settles O59: with NRESET released each operation of the unit settles the record on a STABLE source, and each change of the
tracked line reaches it; with NRESET asserted nothing moves. -/
theorem stepKeepsTheReferenceSound : Obligations.StepKeepsTheReferenceSound := by
  rintro s t ⟨ports, sound⟩ run
  refine ⟨step_portsSound ports run, (referenceSound_iff t).mpr ?_⟩
  have h := (referenceSound_iff s).mp sound
  rcases step_cases run with rfl | ⟨c, rest, done⟩
  · rcases crystalPeriod_cases s with same | ⟨k, active, up, e⟩
    · rwa [same]
    · rw [e]
      refine ⟨fun low => referenceUp_putLine (h.1 low) rfl, fun low => ?_⟩
      have idle := (h.2 low).1 k
      simp [LineRec.receiving, idle] at up
  · exact exec_referenceSound (s := { s with pending := rest }) ports h done

end Sys2Proof.Machine

/-! SUPPORT. The identification unit (06): each operation on an accessory record and its gate, and O57. -/

namespace Sys2Proof.Machine

/-! ### One earpiece's record and gate -/

/-- What the invariant asks of one earpiece, with NRESET asserted or not. -/
def EarSound (low : Bool) (profiles : Vector Profile 8) (a : Accessory) (gate : Ramp) : Prop :=
  a.Sound profiles ∧ (a.state = .unknown ↔ low = true) ∧ (a.state = .present → gate.target = Config.unity) ∧
    (a.state ≠ .present → gate.target = 0 ∧ gate.cur = 0)

theorem accessoriesSound_iff (s : State) : AccessoriesSound s ↔
    (s.ident.profiles.get 0).valid = true ∧ ∀ e, EarSound s.nresetLow s.ident.profiles (s.acc e) (s.gate e) := Iff.rfl

section Record
variable {a : Accessory} {profiles : Vector Profile 8} {low : Bool} {gate : Ramp}

/-- A probe just started is sound, whatever the record was (R119). -/
theorem startProbe_sound (a : Accessory) (profiles : Vector Profile 8) : a.startProbe.Sound profiles :=
  ⟨⟨fun _ => rfl, fun _ => rfl⟩, Nat.zero_le _, fun off => absurd rfl off, nofun, by rintro (⟨⟨⟩⟩ | ⟨⟨⟩⟩), fun _ => rfl,
    by rintro (⟨⟨⟩⟩ | ⟨⟨⟩⟩), nofun, nofun⟩

/-- A probe started on an earpiece closes its gate where the earpiece was PRESENT (R119, R130). -/
theorem startProbe_earSound (h : EarSound low profiles a gate) (up : low = false) :
    EarSound low profiles a.startProbe (if a.state = .present then gate.aim 0 0 else gate) := by
  obtain ⟨-, -, -, closed⟩ := h
  refine ⟨startProbe_sound a profiles, by simp [Accessory.startProbe, up], nofun, fun _ => ?_⟩
  split
  · exact ⟨rfl, rfl⟩
  · next off => exact closed off

theorem stepProbe_earSound (h : EarSound low profiles a gate) (probing : a.state = .probing) (more : a.readings.length < 3) :
    EarSound low profiles a.stepProbe gate := by
  obtain ⟨⟨-, -, -, debounce, -⟩, rest⟩ := h
  have state : a.stepProbe.state = .probing := probing
  have length : a.stepProbe.readings.length = a.readings.length + 1 := by simp [Accessory.stepProbe]
  refine ⟨⟨⟨fun _ => state, fun _ => rfl⟩, by omega, fun off => absurd state off, debounce, ?_, fun _ => ?_, ?_, ?_, ?_⟩, rest⟩
  · rw [state]; rintro (⟨⟨⟩⟩ | ⟨⟨⟩⟩)
  · rw [length]; rfl
  · rw [state]; rintro (⟨⟨⟩⟩ | ⟨⟨⟩⟩)
  · rw [state]; nofun
  · rw [state]; nofun

/-- What plug detect leaves of a record, apart from its debounce timer (R123). -/
theorem watch_eq (a : Accessory) : a.watch = { a with debounce := a.watch.debounce } := by
  unfold Accessory.watch
  split <;> rfl

theorem watch_debounce (watching : a.state = .present ∨ a.state = .absent) :
    a.watch.debounce = none ↔ a.sense.get 3 = a.rest := by
  simp only [Accessory.watch, watching, if_true]
  split
  · simp [*]
  · cases a.debounce <;> simp [*]

theorem watch_of_other (other : ¬ (a.state = .present ∨ a.state = .absent)) : a.watch = a := by
  simp [Accessory.watch, other]

/-- A record that is PRESENT or ABSENT is sound once plug detect has compared it. -/
theorem watch_sound (watching : a.state = .present ∨ a.state = .absent) (settle : a.settle = none) (readings : a.readings = [])
    (bias : a.bias = some 3) (present : a.state = .present → a.id ≠ 0xFFF ∧ a.profile = lookup profiles a.id)
    (absent : a.state = .absent → a.id = 0xFFF ∧ a.profile = 0) : a.watch.Sound profiles := by
  have compared := watch_debounce watching
  have not_probing : a.state ≠ .probing := by rcases watching with h | h <;> simp [h]
  rw [watch_eq]
  exact ⟨by simp [settle, not_probing], by simp [readings], fun _ => readings, fun _ => watching, fun _ => compared,
    fun probing => absurd probing not_probing, fun _ => bias, present, absent⟩

/-- The connector answers anew (R122, R123). -/
theorem sense_earSound (h : EarSound low profiles a gate) (sense : Vector Contacts 4) :
    EarSound low profiles ({ a with sense := sense } : Accessory).watch gate := by
  obtain ⟨⟨settle, room, readings, debounce, -, probing, bias, present, absent⟩, rest⟩ := h
  have state : ({ a with sense := sense } : Accessory).watch.state = a.state := by rw [watch_eq]
  refine ⟨?_, by rwa [state]⟩
  by_cases watching : a.state = .present ∨ a.state = .absent
  · have not_probing : a.state ≠ .probing := by rcases watching with h | h <;> simp [h]
    exact watch_sound (a := { a with sense := sense }) watching (by simpa [not_probing] using settle) (readings not_probing)
      (bias watching) present absent
  · rw [watch_of_other (a := { a with sense := sense }) watching]
    exact ⟨settle, room, readings, debounce, fun on => absurd on watching, probing, bias, present, absent⟩

/-- The fourth reading (R121): PRESENT or ABSENT by the ID. -/
theorem complete_cases (a : Accessory) (profiles : Vector Profile 8) (r : Contacts) :
    (a.complete profiles r).state =
        (if assembleId (a.readings ++ [r]) = 0xFFF then AccessoryState.absent else AccessoryState.present) ∧
      (a.bias = some 3 → (a.complete profiles r).Sound profiles) := by
  unfold Accessory.complete
  dsimp only
  split
  · next none_plugged =>
    exact ⟨by rw [watch_eq], fun bias => watch_sound (.inr rfl) rfl rfl bias nofun fun _ => ⟨none_plugged, rfl⟩⟩
  · next plugged =>
    exact ⟨by rw [watch_eq], fun bias => watch_sound (.inl rfl) rfl rfl bias (fun _ => ⟨plugged, rfl⟩) nofun⟩

/-- A probe's completion opens the gate where the earpiece is PRESENT (R121, R130). -/
theorem complete_earSound (h : EarSound low profiles a gate) (probing : a.state = .probing) (last : ¬ a.readings.length < 3) :
    EarSound low profiles (a.complete profiles a.reading)
      (if (a.complete profiles a.reading).state = .present then gate.aim Config.unity Config.shortRamp else gate) := by
  obtain ⟨⟨-, room, -, -, -, bias, -⟩, known, -, closed⟩ := h
  have three : a.readings.length = 3 := by omega
  have bias : a.bias = some 3 := by rw [bias probing, three]; rfl
  obtain ⟨state, sound⟩ := complete_cases a profiles a.reading
  have up : low = false := by
    rw [probing] at known
    simpa using known
  refine ⟨sound bias, ?_, fun present => ?_, fun off => ?_⟩
  · rw [state, up]
    split <;> simp
  · rw [if_pos present, aim_target]
  · rw [if_neg off]
    exact closed (by simp [probing])

theorem lookedUp_earSound (h : EarSound low profiles a gate) (t : Vector Profile 8) : EarSound low t (a.lookedUp t) gate := by
  obtain ⟨⟨settle, room, readings, debounce, watched, probing, bias, present, absent⟩, rest⟩ := h
  unfold Accessory.lookedUp
  split
  · next on =>
    exact ⟨⟨settle, room, readings, debounce, watched, probing, bias, fun _ => ⟨(present on).1, rfl⟩,
      fun off => by have off : a.state = .absent := off; simp [on] at off⟩, rest⟩
  · next off =>
    exact ⟨⟨settle, room, readings, debounce, watched, probing, bias, fun on => absurd on off, absent⟩, rest⟩

theorem frame_earSound (h : EarSound low profiles a gate) : EarSound low profiles a.frame gate.advance := by
  obtain ⟨⟨settle, room, readings, debounce, watched, rest⟩, known, opened, closed⟩ := h
  refine ⟨⟨?_, room, readings, ?_, fun on => ?_, rest⟩, known, fun on => ?_, fun off => ?_⟩
  · simpa [Accessory.frame, tick_isSome] using settle
  · simpa [Accessory.frame, tick_isSome] using debounce
  · simpa [Accessory.frame, tick] using watched on
  · rw [advance_target]; exact opened on
  · have between := advance_between gate
    have := closed off
    rw [advance_target]
    omega

theorem accReset_earSound (sense : Vector Contacts 4) (profiles : Vector Profile 8) :
    EarSound true profiles (Accessory.reset sense) (Ramp.rest 0) := by
  simp [EarSound, Accessory.Sound, Accessory.reset, Ramp.rest]

end Record

/-! ### The state -/

section Unit
variable {s : State}

/-- One earpiece's record and gate replaced. -/
theorem accessoriesSound_put {t : State} (h : AccessoriesSound s) (nreset : t.nresetLow = s.nresetLow)
    (profiles : t.ident.profiles = s.ident.profiles) {e : Earpiece}
    (others : ∀ j, j ≠ e → t.acc j = s.acc j ∧ t.gate j = s.gate j)
    (own : EarSound s.nresetLow s.ident.profiles (t.acc e) (t.gate e)) : AccessoriesSound t := by
  obtain ⟨valid, ears⟩ := (accessoriesSound_iff s).mp h
  refine (accessoriesSound_iff t).mpr ⟨by rwa [profiles], fun j => ?_⟩
  rw [nreset, profiles]
  by_cases same : j = e
  · subst same; exact own
  · rw [(others j same).1, (others j same).2]
    exact ears j

theorem accessoriesSound_putAcc (h : AccessoriesSound s) {e : Earpiece} {a : Accessory}
    (own : EarSound s.nresetLow s.ident.profiles a (s.gate e)) : AccessoriesSound (s.putAcc e a) := by
  refine accessoriesSound_put h rfl rfl (e := e) (fun j other => ⟨?_, rfl⟩) (by rw [acc_putAcc_same]; exact own)
  rw [acc_putAcc, if_neg other]

theorem startProbe_gate (s : State) (e j : Earpiece) : (s.startProbe e).gate j =
    if j = e ∧ (s.acc e).state = .present then (s.gate e).aim 0 0 else s.gate j := by
  unfold State.startProbe
  dsimp only
  split
  · next present => simp [gate_putGate, present]
  · next off => simp [off]

theorem startProbe_accessoriesSound (h : AccessoriesSound s) (up : s.nresetLow = false) (e : Earpiece) :
    AccessoriesSound (s.startProbe e) := by
  obtain ⟨-, ears⟩ := (accessoriesSound_iff s).mp h
  refine accessoriesSound_put h (by rw [startProbe_eq]) ?_ (e := e) (fun j other => ?_) ?_
  · unfold State.startProbe
    dsimp only
    split <;> rfl
  · rw [startProbe_acc, startProbe_gate, if_neg other, if_neg fun both => other both.1]
    exact ⟨rfl, rfl⟩
  · rw [startProbe_acc, startProbe_gate, if_pos rfl]
    simpa using startProbe_earSound (ears e) up

theorem postAll_accessoriesSound (h : AccessoriesSound s) (xs : List Post) : AccessoriesSound (s.postAll xs) := by
  rw [postAll_eq]; exact h

theorem completeProbe_accessoriesSound (h : AccessoriesSound s) {e : Earpiece} (probing : (s.acc e).state = .probing)
    (last : ¬ (s.acc e).readings.length < 3) : AccessoriesSound (s.completeProbe e) := by
  obtain ⟨-, ears⟩ := (accessoriesSound_iff s).mp h
  have own := complete_earSound (ears e) probing last
  unfold State.completeProbe
  dsimp only
  refine postAll_accessoriesSound ?_ _
  split
  · next present =>
    rw [if_pos present] at own
    refine accessoriesSound_put h rfl rfl (e := e) (fun j other => ?_) ?_
    · rw [acc_putGate, acc_putAcc, if_neg other, gate_putGate, if_neg other]
      exact ⟨rfl, rfl⟩
    · rw [acc_putGate, acc_putAcc_same, gate_putGate_same]
      exact own
  · next off =>
    rw [if_neg off] at own
    exact accessoriesSound_putAcc h own

theorem storeProfile_valid (t : Vector Profile 8) (i : ProfileIx) (valid : Bool) (matchId : BitVec 12) (ceiling : Level)
    (ear : EarMode) (h : (t.get 0).valid = true) : ((storeProfile t i valid matchId ceiling ear).get 0).valid = true := by
  unfold storeProfile
  split
  · next zero => subst zero; simpa using h
  · next other => rwa [get_put_ne _ (Ne.symm other)]

theorem relooked_accessoriesSound (h : AccessoriesSound s) {t : Vector Profile 8} (valid : (t.get 0).valid = true) :
    AccessoriesSound { s with ident := { profiles := t, accs := remap s.ident.accs fun _ a => a.lookedUp t } } := by
  obtain ⟨-, ears⟩ := (accessoriesSound_iff s).mp h
  refine ⟨valid, fun e => ?_⟩
  simp only [State.acc, get_remap]
  exact lookedUp_earSound (ears e) t

theorem setProfile_accessoriesSound (h : AccessoriesSound s) (index valid : Byte) (matchId : BitVec 16) (ceiling ear : Byte) :
    AccessoriesSound (setProfile index valid matchId ceiling ear s).1 := by
  obtain ⟨first, -⟩ := id h
  unfold setProfile
  split
  · exact postAll_accessoriesSound (relooked_accessoriesSound h (storeProfile_valid _ _ _ _ _ _ first)) _
  · exact h

theorem identify_accessoriesSound (h : AccessoriesSound s) (up : s.nresetLow = false) (p : Port) (earpiece : Byte) :
    AccessoriesSound (identify p earpiece s).1 := by
  unfold identify
  split
  · exact h
  · split
    · exact h
    · split <;> [exact h; exact startProbe_accessoriesSound h up _]

theorem accessoriesSound_meters (h : AccessoriesSound s) (meters : Vector Meter 48) :
    AccessoriesSound { s with mix.meters := meters } :=
  (accessoriesSound_iff _).mpr ((accessoriesSound_iff s).mp h)

theorem readLevels_accessoriesSound (h : AccessoriesSound s) (p : Port) (first count : Byte) :
    AccessoriesSound (readLevels p first count s).1 := by
  unfold readLevels
  split
  · exact h
  · exact accessoriesSound_meters h _

theorem frame_accessoriesSound (h : AccessoriesSound s) (mics programmes : List Sample) :
    AccessoriesSound (s.frame mics programmes) := by
  obtain ⟨first, ears⟩ := (accessoriesSound_iff s).mp h
  have profiles : (s.frame mics programmes).ident.profiles = s.ident.profiles := by rw [frame_ident, stepped_profiles]
  have nreset : (s.frame mics programmes).nresetLow = s.nresetLow := by
    rw [frame_eq, postAll_nresetLow, handOn_nresetLow, stepped_nresetLow]
  rw [accessoriesSound_iff, nreset, profiles]
  refine ⟨first, fun e => ?_⟩
  rw [frame_acc, frame_gate]
  exact frame_earSound (ears e)

theorem chipReset_accessoriesSound (s : State) : AccessoriesSound s.chipReset := by
  have profiles : s.chipReset.ident.profiles = profilesReset := by simp only [State.chipReset]
  have acc : ∀ e, s.chipReset.acc e = Accessory.reset (s.acc e).sense := fun e => by
    simp only [State.acc, State.chipReset, get_remap]
  have gate : ∀ e, s.chipReset.gate e = Ramp.rest 0 := fun e => by
    rw [State.gate, chipReset_mix]
    simp [MixEngine.reset]
  have low : s.chipReset.nresetLow = true := by simp only [State.chipReset]
  refine (accessoriesSound_iff _).mpr ⟨by rw [profiles]; rfl, fun e => ?_⟩
  rw [acc, gate, low]
  exact accReset_earSound _ _

theorem releaseNreset_accessoriesSound (h : AccessoriesSound s) (low : s.nresetLow = true) : AccessoriesSound s.releaseNreset := by
  obtain ⟨first, ears⟩ := (accessoriesSound_iff s).mp h
  refine (accessoriesSound_iff _).mpr ⟨first, fun e => ?_⟩
  obtain ⟨-, known, -, closed⟩ := ears e
  have acc : s.releaseNreset.acc e = (s.acc e).startProbe := by simp only [State.acc, State.releaseNreset, get_remap]
  have unknown := known.mpr low
  rw [acc]
  exact ⟨startProbe_sound _ _, ⟨nofun, nofun⟩, nofun, fun _ => closed (by simp [unknown])⟩

end Unit

/-- Every command keeps every accessory record sound; requests are taken while NRESET is released. -/
theorem exec_accessoriesSound {i : Instr} {s t : State} (ports : PortsSound s) (h : AccessoriesSound s)
    (done : exec i s = .next t) : AccessoriesSound t := by
  have atPorts : ∀ (s : State) v, AccessoriesSound s → AccessoriesSound { s with ports := v } := fun _ _ h => h
  obtain ⟨-, ears⟩ := (accessoriesSound_iff s).mp h
  have up_of {e : Earpiece} (known : (s.acc e).state ≠ .unknown) : s.nresetLow = false := by
    obtain ⟨-, unknown, -⟩ := ears e
    simpa [known] using unknown
  cases i with
  | identify p earpiece =>
    rcases takeRequest_cases done with ⟨-, same⟩ | ⟨tag, spelled, taken⟩
    · rw [same]; exact h
    · rw [taken]
      exact atPorts _ _ (identify_accessoriesSound (s := s.endTransaction p) h (spelled_of_sound ports spelled).1 p earpiece)
  | setProfile => exact takeRequest_keeps atPorts (withAuthority_keeps fun u hu => setProfile_accessoriesSound hu _ _ _ _ _) h done
  | readLevels => exact takeRequest_keeps atPorts (fun u hu => readLevels_accessoriesSound hu _ _ _) h done
  | settleTimerExpiry e =>
    simp only [exec, execSettleTimerExpiry] at done
    split at done
    · next probing =>
      split at done <;> obtain rfl := Host.Outcome.next.inj done
      · next more => exact accessoriesSound_putAcc h (stepProbe_earSound (ears e) probing.1 more)
      · next last => exact completeProbe_accessoriesSound h probing.1 last
    · obtain rfl := Host.Outcome.next.inj done; exact h
  | contactReadingChange e =>
    obtain rfl := Host.Outcome.next.inj done
    exact accessoriesSound_putAcc h (sense_earSound (ears e) _)
  | debounceExpiry e =>
    simp only [exec, execDebounceExpiry] at done
    split at done <;> obtain rfl := Host.Outcome.next.inj done
    · next watched =>
      refine startProbe_accessoriesSound h (up_of (e := e) ?_) e
      rcases watched.2 with state | state <;> simp [state]
    · exact h
  | chipReset =>
    rw [chipReset_done done]
    exact chipReset_accessoriesSound s
  | nresetRelease =>
    rw [nresetRelease_done done]
    split <;> [exact releaseNreset_accessoriesSound h ‹_›; exact h]
  | mixFrameEvent mics programmes =>
    rw [frame_done done]
    exact frame_accessoriesSound h mics programmes
  | _ =>
    have kept := exec_kept done
    have mix := kept.mix rfl
    have ident := kept.ident rfl
    refine (accessoriesSound_iff t).mpr ?_
    rw [kept.nreset rfl, ident]
    simp only [State.acc, State.gate, mix, ident]
    exact (accessoriesSound_iff s).mp h

/-- Settles O57: each step of a probe, plug detect and the lookups keep a record sound, and the gate follows the state. -/
theorem stepKeepsTheAccessoriesSound : Obligations.StepKeepsTheAccessoriesSound := by
  rintro s t ⟨ports, sound⟩ run
  refine ⟨step_portsSound ports run, ?_⟩
  rcases step_cases run with rfl | ⟨c, rest, done⟩
  · rw [crystalPeriod_eq]; exact sound
  · exact exec_accessoriesSound (s := { s with pending := rest }) ports sound done

end Sys2Proof.Machine

/-! SUPPORT. The state after reset and after a chip reset, unit by unit: O3 and O4. -/

namespace Sys2Proof.Machine

/-! ### The state after reset -/

theorem reset_port (p : Port) : State.reset.port p = PortRec.reset := by simp [State.port, State.reset]

theorem reset_acc (e : Earpiece) : State.reset.acc e = Accessory.resetProbe unplugged := by simp [State.acc, State.reset]

theorem reset_gate (e : Earpiece) : State.reset.gate e = Ramp.rest 0 := by simp [State.gate, State.reset, MixEngine.reset]

theorem reset_window (p : Port) (w : Fin 2) : AccessUnit.reset.window p w = Window.reset := by
  simp [AccessUnit.window, AccessUnit.reset]

theorem reset_portsSound : PortsSound State.reset := fun p => by
  rw [reset_port]
  exact resetHeld_soundUnder _ false

theorem reset_heldOwnsNothing : HeldOwnsNothing State.reset := fun p held => by
  rw [reset_port] at held
  exact absurd held (by simp [PortRec.reset])

theorem resetProbe_eq (sense : Vector Contacts 4) : Accessory.resetProbe sense = (Accessory.reset sense).startProbe := rfl

theorem reset_accessoriesSound : AccessoriesSound State.reset := by
  refine (accessoriesSound_iff _).mpr ⟨rfl, fun e => ?_⟩
  rw [reset_acc, reset_gate, resetProbe_eq]
  exact ⟨startProbe_sound _ _, ⟨nofun, nofun⟩, nofun, fun _ => ⟨rfl, rfl⟩⟩

theorem reset_referenceUp : ReferenceUp State.reset :=
  ⟨refReset_settled false, nofun, by simp [State.reset, RefUnit.reset]⟩

/-- Settles O3: unit by unit, from what each unit's reset value is. -/
theorem resetMeetsEveryInvariant : Obligations.ResetMeetsEveryInvariant := by
  obtain ⟨down, reference⟩ := (referenceSound_iff State.reset).mpr ⟨fun _ => reset_referenceUp, nofun⟩
  exact ⟨reset_portsSound, reset_heldOwnsNothing, routeReset_sound, mixReset_sound, foldbackReset_sound,
    reset_accessoriesSound, fieldReset_sound, reference, down,
    fun p w => congrArg Window.enabled (reset_window p w), rfl, fun p => get_replicate _ p,
    fun e => by rw [reset_acc]; exact ⟨rfl, rfl, rfl⟩, rfl, rfl, rfl⟩

/-! ### Chip reset -/

theorem profilesReset_get (i : ProfileIx) : profilesReset.get i = Profile.reset i := by
  simp only [profilesReset, Vector.get, Vector.ofFn, Array.getElem_ofFn]
  rfl

theorem chipReset_port (s : State) (p : Port) : s.chipReset.port p = { PortRec.reset with held := (s.port p).held } := by
  simp only [State.port, State.chipReset, get_remap]

theorem chipReset_access (s : State) : s.chipReset.access = AccessUnit.reset := by simp only [State.chipReset]

theorem chipReset_dest (s : State) (d : Dest) : s.chipReset.dest d = DestRec.reset := by
  simp [State.dest, chipReset_route, RouteStore.reset]

theorem chipReset_trim (s : State) (x : Source) : s.chipReset.trim x = Ramp.rest Config.unity := by
  simp [State.trim, chipReset_route, RouteStore.reset]

theorem chipReset_meter (s : State) (d : Dest) : s.chipReset.meter d = { peak := 0, clip := false } := by
  simp [State.meter, chipReset_mix, MixEngine.reset]

theorem chipReset_gate (s : State) (e : Earpiece) : s.chipReset.gate e = Ramp.rest 0 := by
  simp [State.gate, chipReset_mix, MixEngine.reset]

theorem chipReset_fb (s : State) (e : Earpiece) : s.chipReset.fb e = Foldback.reset := by
  simp [State.fb, chipReset_foldback, FoldbackUnit.reset]

theorem chipReset_acc (s : State) (e : Earpiece) : s.chipReset.acc e = Accessory.reset (s.acc e).sense := by
  simp only [State.acc, State.chipReset, get_remap]

theorem chipReset_line (s : State) (k : Line) : s.chipReset.line k = LineRec.reset := by
  simp [State.line, chipReset_field, FieldUnit.reset]

theorem chipReset_profiles (s : State) : s.chipReset.ident.profiles = profilesReset := by simp only [State.chipReset]

theorem chipReset_reference (s : State) : s.chipReset.reference = RefUnit.reset s.reference.houseInput := by
  simp only [State.chipReset]

theorem releaseNreset_eq (s : State) : s.releaseNreset =
    { s with
      nresetLow := false,
      ident := { s.ident with accs := remap s.ident.accs fun _ a =>
        { a with state := .probing, readings := [], debounce := none, bias := some 0, settle := some 96 } },
      reference :=
        if s.reference.houseInput = true ∧ s.reference.house = .absent then
          { s.reference with house := .settling, houseSettle := some 4800 }
        else s.reference } := by
  have presence : (if s.reference.houseInput then s.reference.housePresent else s.reference) =
      if s.reference.houseInput = true ∧ s.reference.house = .absent then
        { s.reference with house := .settling, houseSettle := some 4800 }
      else s.reference := by
    by_cases input : s.reference.houseInput <;> by_cases house : s.reference.house = .absent <;>
      simp [RefUnit.housePresent, input, house, Config.stabilityFrames]
  simp only [State.releaseNreset, presence, Accessory.startProbe, Config.settleFrames]

/-- Settles O4: each record of the state after chip reset is its unit's reset value. -/
theorem chipResetClearsThePart : Obligations.ChipResetClearsThePart := by
  refine ⟨fun s => ⟨s.chipReset, rfl, rfl, chipReset_port s, fun p w => ?_, fun p => ?_, ?_, chipReset_dest s, ?_, fun x => ?_,
    chipReset_meter s, fun e => ?_, fun e => ?_, fun g => ?_, fun e => ?_, fun i => ?_, fun k => ?_, ?_, ?_⟩,
    fun s low => ?_⟩
  · rw [chipReset_access, reset_window]; rfl
  · rw [chipReset_access]; exact get_replicate _ p
  · rw [chipReset_access]; rfl
  · rw [chipReset_route]; rfl
  · rw [chipReset_trim]; exact ⟨rfl, rfl⟩
  · rw [chipReset_gate]; exact ⟨rfl, rfl⟩
  · rw [chipReset_fb]; simp [Foldback.reset, Ramp.rest]
  · rw [chipReset_foldback]; exact get_replicate _ g
  · rw [chipReset_acc]; simp [Accessory.reset]
  · rw [chipReset_profiles, profilesReset_get]; rfl
  · rw [chipReset_line]; simp [LineRec.reset]
  · rw [chipReset_reference]; rfl
  · simp only [State.chipReset]
  · have done : exec .nresetRelease s = .next s.releaseNreset := by simp [exec, execNresetRelease, low]
    rw [done, releaseNreset_eq]

end Sys2Proof.Machine

/-! SUPPORT. The requests of the route store through their checks: O23, O24, O25, O26 and O27. -/

namespace Sys2Proof.Machine

section Lists
variable {a b : List Entry} {x : Source} {y : Entry}

theorem findEntry_split (a b : List Entry) (own : y.source = x) (others : ∀ z ∈ a ++ b, z.source ≠ x) :
    findEntry (a ++ y :: b) x = some y := by
  have before : a.find? (fun z => decide (z.source = x)) = none := by
    simpa using fun z hz => others z (List.mem_append_left b hz)
  simp [findEntry, List.find?_append, before, own]

theorem mapEntry_split (a b : List Entry) (own : y.source = x) (others : ∀ z ∈ a ++ b, z.source ≠ x) (f : Entry → Entry) :
    mapEntry (a ++ y :: b) x f = a ++ f y :: b := by
  have fixed : ∀ l : List Entry, (∀ z ∈ l, z.source ≠ x) → l.map (fun z => if z.source = x then f z else z) = l :=
    fun l h => (List.map_congr_left fun z hz => if_neg (h z hz)).trans (List.map_id' l)
  rw [mapEntry, List.map_append, List.map_cons, if_pos own, fixed a fun z hz => others z (List.mem_append_left b hz),
    fixed b fun z hz => others z (List.mem_append_right a hz)]

theorem liveEntry_split (a b : List Entry) (own : y.source = x) (others : ∀ z ∈ a ++ b, z.source ≠ x) (w : Window) :
    liveEntry (a ++ y :: b) x w =
      if y.state = .fadingOut then .error { outcome := .absent }
      else if w.priority < y.priority then .error (protectedAnswer y) else .ok y := by
  simp only [liveEntry, findEntry_split a b own others]

theorem liveEntry_missing {l : List Entry} (missing : ∀ z ∈ l, z.source ≠ x) (w : Window) :
    liveEntry l x w = .error { outcome := .absent } := by
  simp only [liveEntry, findEntry_none.mpr missing]

theorem unfinished_of_not_finished {l : List Entry} (h : ∀ z ∈ l, z.finished = false) : unfinished l = l :=
  List.filter_eq_self.mpr fun z hz => by rw [h z hz]; rfl

theorem unfinished_append (a b : List Entry) : unfinished (a ++ b) = unfinished a ++ unfinished b := List.filter_append ..

/-- Where no other entry of the list is finished, only the entry in the middle can leave it. -/
theorem unfinished_split (a b : List Entry) (y : Entry) (others : ∀ z ∈ a ++ b, z.finished = false) :
    unfinished (a ++ y :: b) = if y.finished then a ++ b else a ++ y :: b := by
  have left := unfinished_of_not_finished fun z hz => others z (List.mem_append_left b hz)
  have right := unfinished_of_not_finished fun z hz => others z (List.mem_append_right a hz)
  rw [unfinished_append, left, ← List.singleton_append, unfinished_append, right]
  cases h : y.finished <;> simp [unfinished, h]

theorem finished_iff (y : Entry) : y.finished = true ↔ y.state = .fadingOut ∧ y.ramp.cur = 0 := by simp [Entry.finished]

theorem finished_eq_false {y : Entry} (h : ¬ (y.state = .fadingOut ∧ y.ramp.cur = 0)) : y.finished = false :=
  Bool.eq_false_iff.mpr fun on => h ((finished_iff y).mp on)

theorem settleList_eq (s : State) (d : Dest) {l left : List Entry} (h : unfinished l = left) : s.settleList d l =
    { s.putDest d { s.dest d with list := left } with
      route := { (s.putDest d { s.dest d with list := left }).route with free := s.route.free + (l.length - left.length) } } := by
  rw [← h]; rfl

end Lists

/-- A panel's own source is kept at 40 or more (R49). -/
theorem sidetone_eq {d : Dest} {x : Source} {level : Byte} {l : Level}
    (h : l.val = if d.val < 24 ∧ x.val = d.val then max 40 (min 127 level.toNat) else min 127 level.toNat) :
    sidetone d x (clampLevel level) = l := by
  have clamped := clampLevel_val level
  have own : ownSource d = some x → d.val < 24 → x.val = d.val := fun o panel => by
    rcases ownSource_iff.mp o with ⟨-, same⟩ | ⟨field, -⟩ <;> omega
  have mine : d.val < 24 ∧ x.val = d.val → ownSource d = some x := fun o => ownSource_iff.mpr (.inl o)
  have low : clampLevel level < 40 ↔ (clampLevel level).val < 40 := Iff.rfl
  unfold sidetone
  refine Fin.ext ?_
  split_ifs at h with panel <;> split_ifs with raise
  · have : (clampLevel level).val < 40 := raise.2.2
    simp; omega
  · have : ¬ clampLevel level < 40 := fun small => raise ⟨panel.1, mine panel, small⟩
    rw [low] at this; omega
  · exact absurd ⟨raise.1, own raise.2.1 raise.1⟩ panel
  · omega

theorem self_iff {d : Dest} {x : Source} : (40 ≤ d.val ∧ ownSource d = some x) ↔ 40 ≤ d.val ∧ x.val + 16 = d.val := by
  rw [ownSource_iff]; omega

theorem readMode_lt_of_code {m : EntryMode} {b : Byte} (h : b.toNat = m.code) : b.toNat < 2 := by
  cases m <;> simp [h, EntryMode.code]

section Requests
variable {s : State} {p : Port} {dest source level mode filter : Byte} {d : Dest} {x : Source} {w : Window}

/-! ### ROUTE_ADD (R46) -/

section Add
variable {l : Level} {m : EntryMode} {lv : Level}

theorem routeAdd_admitted (onDest : dest.toNat = d.val) (onSource : source.toNat = x.val) (onMode : mode.toNat = m.code)
    (write : s.access.checkWrite p d = .ok w) :
    routeAdd p dest source level mode s = routeAddChecked p w d x (clampLevel level) m s := by
  simp only [routeAdd, inClass_eq onDest, inClass_eq onSource, readMode_code m onMode, write]

theorem routeAddChecked_self (own : 40 ≤ d.val ∧ x.val + 16 = d.val) :
    routeAddChecked p w d x lv m s = (s, { outcome := .self }) := by
  simp only [routeAddChecked, if_pos (self_iff.mpr own)]

theorem routeAddChecked_active {y : Entry} (other : ¬ (40 ≤ d.val ∧ x.val + 16 = d.val))
    (found : findEntry (s.dest d).list x = some y) (active : y.state = .active) :
    routeAddChecked p w d x lv m s = (s, { outcome := .state }) := by
  simp only [routeAddChecked, if_neg (mt self_iff.mp other), found, if_pos active]

theorem routeAddChecked_fading {y : Entry} (other : ¬ (40 ≤ d.val ∧ x.val + 16 = d.val))
    (found : findEntry (s.dest d).list x = some y) (fading : y.state = .fadingOut) (raised : sidetone d x lv = l) :
    routeAddChecked p w d x lv m s =
      (s.putDest d { s.dest d with list := mapEntry (s.dest d).list x fun y => y.revive (s.fadeLength d) l m p w },
        okAnswer [actionRevived, byte l.val]) := by
  have asleep : y.state ≠ .active := by simp [fading]
  simp only [routeAddChecked, if_neg (mt self_iff.mp other), found, if_neg asleep, raised]

theorem routeAddChecked_missing (other : ¬ (40 ≤ d.val ∧ x.val + 16 = d.val)) (missing : ∀ y ∈ (s.dest d).list, y.source ≠ x)
    (raised : sidetone d x lv = l) :
    routeAddChecked p w d x lv m s =
      if 12 ≤ (s.dest d).list.length then (s, { outcome := .full, results := [1] })
      else if s.route.free = 0 then (s, { outcome := .full, results := [2] })
      else
        ({ s.putDest d { s.dest d with list := (s.dest d).list ++ [newEntry (s.fadeLength d) x l m p w] } with
            route := { (s.putDest d { s.dest d with
              list := (s.dest d).list ++ [newEntry (s.fadeLength d) x l m p w] }).route with free := s.route.free - 1 } },
          okAnswer [1, byte l.val]) := by
  simp only [routeAddChecked, if_neg (mt self_iff.mp other), findEntry_none.mpr missing, raised]
  rfl

end Add

/-- Settles O23: the checks of R46 in their order. -/
theorem routeAddFollowsItsChecks : Obligations.RouteAddFollowsItsChecks := by
  intro s p tag dest source level mode spelled u answered
  refine ⟨namesOutOfClassAreRefused _ p s tag rfl spelled, ?_⟩
  intro d x m l onDest onSource onMode onLevel list frames
  have denied := uncoveredDestinationsAreDenied.2 _ p s tag d true rfl spelled
    ⟨onDest, onSource ▸ x.isLt, readMode_lt_of_code onMode, rfl⟩
  refine ⟨denied.1, fun w governs => ⟨fun only => denied.2 w governs only rfl, fun writable own field => ?_,
    fun writable other => ?_⟩⟩
  all_goals have admitted := routeAdd_admitted (s := u) (level := level) onDest onSource onMode
              (checkWrite_ok.mpr ⟨governs, writable⟩)
  · exact takeRequest_does spelled (admitted.trans (routeAddChecked_self ⟨own, field⟩))
  · have raised := sidetone_eq onLevel
    refine ⟨fun a y b split own others => ?_, fun missing => ?_⟩
    · have found : findEntry (u.dest d).list x = some y := by
        show findEntry list x = _
        rw [split, findEntry_split a b own others]
      refine ⟨fun active => takeRequest_does spelled (admitted.trans (routeAddChecked_active other found active)), ?_⟩
      intro fading y'
      refine takeRequest_does spelled (admitted.trans ((routeAddChecked_fading other found fading raised).trans ?_))
      have listed : (u.dest d).list = a ++ y :: b := split
      rw [listed, mapEntry_split a b own others]
      rfl
    · have checked := admitted.trans (routeAddChecked_missing other missing raised)
      refine ⟨fun full => takeRequest_does spelled (checked.trans (if_pos full)),
        fun room empty => takeRequest_does spelled (checked.trans ((if_neg (Nat.not_le.mpr room)).trans (if_pos empty))),
        fun room free => takeRequest_does spelled (checked.trans ((if_neg (Nat.not_le.mpr room)).trans (if_neg free)))⟩

/-! ### ROUTE_LEVEL and ROUTE_REMOVE (R51, R52) -/

theorem routeLevel_refused {a : Answer} (onDest : dest.toNat = d.val) (onSource : source.toNat = x.val)
    (write : s.access.checkWrite p d = .ok w) (dead : liveEntry (s.dest d).list x w = .error a) :
    routeLevel p dest source level s = (s, a) := by
  simp only [routeLevel, inClass_eq onDest, inClass_eq onSource, write, dead]

theorem routeLevel_changes {y : Entry} {l : Level} (onDest : dest.toNat = d.val) (onSource : source.toNat = x.val)
    (write : s.access.checkWrite p d = .ok w) (live : liveEntry (s.dest d).list x w = .ok y)
    (raised : sidetone d x (clampLevel level) = l) :
    routeLevel p dest source level s = (s.putDest d { s.dest d with
      list := mapEntry (s.dest d).list x fun y => { y with level := l : Entry }.retarget (s.fadeLength d) },
      okAnswer [byte l.val]) := by
  simp only [routeLevel, inClass_eq onDest, inClass_eq onSource, write, live, raised]

theorem routeRemove_refused {a : Answer} (onDest : dest.toNat = d.val) (onSource : source.toNat = x.val)
    (write : s.access.checkWrite p d = .ok w) (dead : liveEntry (s.dest d).list x w = .error a) :
    routeRemove p dest source s = (s, a) := by
  simp only [routeRemove, inClass_eq onDest, inClass_eq onSource, write, dead]

theorem routeRemove_fades {y : Entry} (onDest : dest.toNat = d.val) (onSource : source.toNat = x.val)
    (write : s.access.checkWrite p d = .ok w) (live : liveEntry (s.dest d).list x w = .ok y) :
    routeRemove p dest source s =
      (s.settleList d (mapEntry (s.dest d).list x fun y => y.fadeOut (s.fadeLength d)), okAnswer []) := by
  simp only [routeRemove, inClass_eq onDest, inClass_eq onSource, write, live]

theorem liveEntry_fading {a b : List Entry} {y : Entry} (own : y.source = x) (others : ∀ z ∈ a ++ b, z.source ≠ x)
    (fading : y.state = .fadingOut) : liveEntry (a ++ y :: b) x w = .error { outcome := .absent } := by
  rw [liveEntry_split a b own others, if_pos fading]

theorem liveEntry_protected {a b : List Entry} {y : Entry} (own : y.source = x) (others : ∀ z ∈ a ++ b, z.source ≠ x)
    (active : y.state = .active) (above : w.priority < y.priority) :
    liveEntry (a ++ y :: b) x w = .error (protectedAnswer y) := by
  rw [liveEntry_split a b own others, if_neg (by simp [active]), if_pos above]

theorem liveEntry_live {a b : List Entry} {y : Entry} (own : y.source = x) (others : ∀ z ∈ a ++ b, z.source ≠ x)
    (active : y.state = .active) (within : y.priority ≤ w.priority) : liveEntry (a ++ y :: b) x w = .ok y := by
  rw [liveEntry_split a b own others, if_neg (by simp [active]), if_neg (BitVec.not_lt.mpr within)]

/-- Settles O24: the four checks of R51. -/
theorem routeLevelChangesALiveEntry : Obligations.RouteLevelChangesALiveEntry := by
  intro s p tag dest source level spelled u answered
  refine ⟨namesOutOfClassAreRefused _ p s tag rfl spelled, fun d x l onDest onSource onLevel => ?_⟩
  have denied := uncoveredDestinationsAreDenied.2 _ p s tag d true rfl spelled ⟨onDest, onSource ▸ x.isLt, rfl⟩
  refine ⟨denied.1, fun w governs => ⟨fun only => denied.2 w governs only rfl, fun writable => ?_⟩⟩
  have write : u.access.checkWrite p d = .ok w := checkWrite_ok.mpr ⟨governs, writable⟩
  have refused : ∀ {e}, liveEntry (u.dest d).list x w = .error e → answered e := fun dead =>
    takeRequest_does spelled (routeLevel_refused onDest onSource write dead)
  refine ⟨fun missing => refused (liveEntry_missing missing w), fun a y b split own others => ?_⟩
  have listed : (u.dest d).list = a ++ y :: b := split
  rw [listed] at refused
  refine ⟨fun fading => refused (liveEntry_fading own others fading),
    fun active above => refused (liveEntry_protected own others active above), ?_⟩
  intro active within y'
  have live : liveEntry (u.dest d).list x w = .ok y := by rw [listed, liveEntry_live own others active within]
  refine takeRequest_does spelled ((routeLevel_changes onDest onSource write live (sidetone_eq onLevel)).trans ?_)
  have goal : ({ y with level := l } : Entry).goal = gain l := by simp [Entry.goal, active]
  rw [listed, mapEntry_split a b own others, Entry.retarget, goal]
  rfl

/-- Settles O25: the checks of R52; an entry silent at once leaves the list alone (R54). -/
theorem routeRemoveBeginsTheFade : Obligations.RouteRemoveBeginsTheFade := by
  intro s p tag dest source spelled u answered
  refine ⟨namesOutOfClassAreRefused _ p s tag rfl spelled, fun d x onDest onSource => ?_⟩
  have denied := uncoveredDestinationsAreDenied.2 _ p s tag d true rfl spelled ⟨onDest, onSource ▸ x.isLt, rfl⟩
  refine ⟨denied.1, fun w governs => ⟨fun only => denied.2 w governs only rfl, fun writable => ?_⟩⟩
  have write : u.access.checkWrite p d = .ok w := checkWrite_ok.mpr ⟨governs, writable⟩
  have refused : ∀ {e}, liveEntry (u.dest d).list x w = .error e → answered e := fun dead =>
    takeRequest_does spelled (routeRemove_refused onDest onSource write dead)
  refine ⟨fun missing => refused (liveEntry_missing missing w), fun a y b split own rest => ?_⟩
  have others : ∀ z ∈ a ++ b, z.source ≠ x := fun z hz => (rest z hz).1
  have unfinishedRest : ∀ z ∈ a ++ b, z.finished = false := fun z hz => finished_eq_false (rest z hz).2
  have listed : (u.dest d).list = a ++ y :: b := split
  rw [listed] at refused
  refine ⟨fun fading => refused (liveEntry_fading own others fading),
    fun active above => refused (liveEntry_protected own others active above), ?_⟩
  intro active within y'
  have live : liveEntry (u.dest d).list x w = .ok y := by rw [listed, liveEntry_live own others active within]
  have removes := routeRemove_fades onDest onSource write live
  rw [listed, mapEntry_split a b own others] at removes
  have settles := unfinished_split a b y' unfinishedRest
  refine ⟨fun sounding => takeRequest_does spelled (removes.trans ?_), fun silent => takeRequest_does spelled (removes.trans ?_)⟩
  · rw [if_neg (by simp [finished_iff, sounding])] at settles
    have settled := settleList_eq u d settles
    rw [Nat.sub_self] at settled
    exact congrArg (·, okAnswer []) settled
  · rw [if_pos ((finished_iff y').mpr ⟨rfl, silent⟩)] at settles
    have settled := settleList_eq u d settles
    have one : (a ++ y' :: b).length - (a ++ b).length = 1 := by simp; omega
    rw [one] at settled
    exact congrArg (·, okAnswer []) settled

/-! ### ROUTE_CLEAR (R53) -/

/-- The filter byte's meaning: any tag, or one tag (R53). -/
theorem passes_iff {y : Entry} (named : filter.toNat < 4 ∨ filter = 0xFF) :
    y.passes (if filter = 0xFF then none else some (filter.setWidth 2)) =
      decide (y.state = .active ∧ (filter = 0xFF ∨ y.tag.toNat = filter.toNat)) := by
  by_cases all : filter = 0xFF
  · simp [Entry.passes, all]
  · have tagged : y.tag = filter.setWidth 2 ↔ y.tag.toNat = filter.toNat := by
      rw [← BitVec.toNat_inj, BitVec.toNat_setWidth, Nat.mod_eq_of_lt (named.resolve_right all)]
    rw [if_neg all]
    simp only [Entry.passes, tagged, Bool.decide_and, all, false_or]

theorem routeClear_clears {f : Option (BitVec 2)} (onDest : dest.toNat = d.val) (named : readFilter filter = some f)
    (write : s.access.checkWrite p d = .ok w) :
    routeClear p dest filter s =
      (s.settleList d ((s.dest d).list.map fun y => if y.cleared f w.priority then y.fadeOut (s.fadeLength d) else y),
        okAnswer [byte ((s.dest d).list.countP fun y => y.cleared f w.priority),
          byte ((s.dest d).list.countP fun y => y.kept f w.priority)]) := by
  simp only [routeClear, inClass_eq onDest, named, write]

theorem unfinished_eq (l : List Entry) :
    unfinished l = l.filter fun y => decide (¬ (y.state = .fadingOut ∧ y.ramp.cur = 0)) := by
  simp [unfinished, Entry.finished]

/-- Settles O26: the entries cleared are those that pass the filter at the asker's priority or below (R53). -/
theorem routeClearSortsTheList : Obligations.RouteClearSortsTheList := by
  intro s p tag dest filter spelled u answered
  have unmarked : filter ≠ 0xFF → filter.toNat < 255 := fun other => by
    have : filter.toNat ≠ (0xFF : Byte).toNat := fun same => other (BitVec.eq_of_toNat_eq same)
    have full : (0xFF : Byte).toNat = 255 := rfl
    omega
  refine ⟨fun outside => namesOutOfClassAreRefused _ p s tag rfl spelled (outside.imp id (And.imp id unmarked)),
    fun d onDest named => ?_⟩
  have denied := uncoveredDestinationsAreDenied.2 _ p s tag d true rfl spelled ⟨onDest, named, rfl⟩
  refine ⟨denied.1, fun w governs => ⟨fun only => denied.2 w governs only rfl, ?_⟩⟩
  intro writable passes cleared kept faded left v
  have write : u.access.checkWrite p d = .ok w := checkWrite_ok.mpr ⟨governs, writable⟩
  have pass : ∀ y : Entry, y.passes (if filter = 0xFF then none else some (filter.setWidth 2)) = passes y :=
    fun y => passes_iff named
  refine takeRequest_does spelled ((routeClear_clears onDest (readFilter_some named) write).trans ?_)
  simp only [Entry.cleared, Entry.kept, pass, Bool.and_eq_true, decide_eq_true_eq]
  rw [settleList_eq u d (unfinished_eq _)]
  rfl

/-! ### SET_DEST and SET_TRIM (R56, R62) -/

/-- Settles O27: each stores what it names. -/
theorem setDestAndSetTrimStore : Obligations.SetDestAndSetTrimStore := by
  refine ⟨fun s p tag dest master fade d w l f spelled onDest governs writable onLevel onFade => ?_,
    fun s p tag source trim x t spelled holds onSource clamped => ?_⟩
  · have write : (s.endTransaction p).access.checkWrite p d = .ok w := checkWrite_ok.mpr ⟨governs, writable⟩
    refine takeRequest_does spelled ?_
    simp only [setDest, inClass_eq onDest, write, clampLevel_eq onLevel, maskTwo_eq onFade]
    rfl
  · have trims : setTrim source trim (s.endTransaction p) =
        ((s.endTransaction p).putTrim x ((s.trim x).aim (trimGain t) 48), { outcome := .ok }) := by
      simp only [setTrim, inClass_eq onSource, clamped]
      rfl
    exact takeRequest_does spelled (withAuthority_of_holder holds trims)

end Requests

end Sys2Proof.Machine

/-! SUPPORT. The bytes of the read replies, and O28. -/

namespace Sys2Proof.Machine

/-- An optional number and the byte of the record it numbers (R166). -/
theorem optByte_map {α : Type} (o : Option α) (f : α → Nat) : optByte (o.map f) = (o.map fun a => byte (f a)).getD 0xFF := by
  cases o <;> rfl

theorem talkBytes_eq (t : TalkRec) : t.bytes = [byte t.port.val, byte t.talker.val,
    byte (4 * t.priority.toNat + t.tag.toNat), (t.origin.map fun g => byte g.val).getD 0xFF] := by
  unfold TalkRec.bytes
  cases t.origin <;> rfl

theorem holderBytes_eq (o : Option TalkRec) : holderBytes o = (o.map TalkRec.bytes).getD [0xFF, 0, 0, 0] := by
  cases o <;> rfl

theorem matchCount_eq (w : Window) : w.matchCount = (List.finRange 48).countP fun d => w.matchesDest d := by
  rw [List.countP_eq_length_filter]; rfl

theorem attemptMs_eq (l : LineRec) :
    msLeft l.attemptTimer = if l.state = .acquiring ∨ l.state = .lost then msLeft l.timer else 0 := by
  unfold LineRec.attemptTimer
  split <;> rfl

theorem toNat_decide (P : Prop) [Decidable P] : (decide P).toNat = if P then 1 else 0 := by
  by_cases h : P <;> simp [h]

section Reads
variable {s : State} {p : Port}

theorem readWindow_reads {port window : Byte} {q : Port} {i : Fin 2} (onPort : port.toNat = q.val)
    (onWindow : window.toNat = i.val) :
    readWindow port window s = (s, okAnswer [switchByte (s.access.window q i).enabled, byte (s.access.window q i).base.toNat,
      byte (s.access.window q i).mask.toNat, byte (s.access.window q i).priority.toNat,
      switchByte (s.access.window q i).listenOnly, byte (s.access.window q i).tag.toNat,
      byte ((List.finRange 48).countP fun d => (s.access.window q i).matchesDest d), switchByte (s.access.seize.get q),
      (s.access.holder.map fun h => byte h.val).getD 0xFF]) := by
  simp only [readWindow, inClass_eq onPort, inClass_eq onWindow, optByte_map, matchCount_eq]

theorem readRoutes_reads {dest : Byte} {d : Dest} (onDest : dest.toNat = d.val) (covered : s.access.governing p d ≠ none) :
    readRoutes p dest s = (s, okAnswer ([byte (s.dest d).master.val, byte (s.dest d).fade.toNat] ++ bytes2 s.route.free ++
      [byte (s.dest d).list.length] ++ (s.dest d).list.flatMap Entry.bytes)) := by
  obtain ⟨w, read⟩ := checkRead_of_ne_none covered
  simp only [readRoutes, inClass_eq onDest, read]

theorem readFoldback_reads {earpiece : Byte} {e : Earpiece} (onEar : earpiece.toNat = e.val)
    (covered : s.access.governing p (earDest e) ≠ none) :
    readFoldback p earpiece s = (s, okAnswer (
      [(s.fb e).state.code, ((s.fb e).slotSource.map fun x => byte x.val).getD 0xFF] ++
        ((s.fb e).holder.map TalkRec.bytes).getD [0xFF, 0, 0, 0] ++ [byte (s.fb e).queue.length] ++
        (s.fb e).queue.flatMap TalkRec.bytes ++
        [((s.fb e).bedSource.map fun g => byte (32 + g.val)).getD 0xFF, byte (s.fb e).nominal.val, byte (s.fb e).duck.val,
          byte (s.fb e).interrupt.val, byte (s.fb e).lead.val, (s.fb e).hold, (s.fb e).limit] ++
        bytes2 (msLeft (s.fb e).stateTimer) ++ [byte (secondsLeft (s.fb e).limitTimer)])) := by
  obtain ⟨w, read⟩ := checkRead_of_ne_none covered
  simp only [readFoldback, inClass_eq onEar, read, optByte_map, holderBytes_eq]

theorem readAccessory_reads {earpiece : Byte} {e : Earpiece} (onEar : earpiece.toNat = e.val)
    (covered : s.access.governing p (earDest e) ≠ none) :
    readAccessory p earpiece s = (s, okAnswer ([(s.acc e).state.code] ++ bytes2 (s.acc e).id.toNat ++
      [byte (s.acc e).rest.toNat, byte (s.acc e).profile.val, byte (s.ident.profiles.get (s.acc e).profile).ceiling.val,
        (s.ident.profiles.get (s.acc e).profile).ear.code, byte (s.acc e).reading.toNat, byte (s.acc e).readings.length,
        byte (msLeft (s.acc e).debounce)])) := by
  obtain ⟨w, read⟩ := checkRead_of_ne_none covered
  simp only [readAccessory, inClass_eq onEar, read]

theorem readField_reads {line : Byte} {k : Line} (onLine : line.toNat = k.val)
    (covered : s.access.governing p (lineDest k) ≠ none) :
    readField p line s = (s, okAnswer (
      [(s.line k).state.code, byte (s.line k).depth.toNat, byte (s.line k).quiet.val, switchByte (s.line k).autoWake,
          byte (s.line k).acquire] ++ bytes2 (s.line k).fill ++
        [if (s.line k).state = .locked then BitVec.ofInt 8 (s.line k).owed else 0] ++ bytes2 (s.line k).quietSlips ++
        bytes2 (s.line k).forcedSlips ++ [(s.line k).lastCause.code] ++
        bytes2 (if (s.line k).state = .acquiring ∨ (s.line k).state = .lost then msLeft (s.line k).timer else 0) ++
        [byte ((if s.reference.active = .field k then 1 else 0) + (if s.reference.tracked = some k then 2 else 0))])) := by
  obtain ⟨w, read⟩ := checkRead_of_ne_none covered
  simp only [readField, inClass_eq onLine, read, attemptMs_eq, State.isActiveLine, toNat_decide, mul_ite, mul_one, mul_zero]

theorem readReference_reads : readReference s = (s, okAnswer (
    [s.reference.selected.code, s.reference.active.code, s.reference.state.code,
        (s.reference.tracked.map fun k => byte k.val).getD 0xFF] ++
      bytes2 (msLeft s.reference.deadline) ++ [s.reference.house.code, byte (msLeft s.reference.houseSettle),
        s.reference.field.code, byte (msLeft s.reference.fieldSettle),
        ((s.reference.tracked.map fun k => (s.line k).state).getD .idle).code])) := by
  cases tracked : s.reference.tracked <;> simp [readReference, tracked, optByte, absentByte]

end Reads

/-- Settles O28: each layout is the record's bytes, read request by read request. -/
theorem readRequestsReportTheRecords : Obligations.ReadRequestsReportTheRecords := by
  refine ⟨⟨rfl, rfl, by decide⟩, rfl, rfl, rfl, rfl, rfl, rfl, rfl, rfl, rfl, rfl, ?_⟩
  intro s p tag u ok b8 two ms sw rec4
  have talk : TalkRec.bytes = rec4 := funext talkBytes_eq
  refine ⟨?_, ?_, ?_, ?_, ?_, ?_⟩
  · intro port window q i spelled onPort onWindow w
    exact takeRequest_does spelled (readWindow_reads onPort onWindow)
  · intro dest d spelled onDest covered
    exact takeRequest_does spelled (readRoutes_reads onDest covered)
  · intro earpiece e spelled onEar covered f
    have reads := readFoldback_reads (s := u) onEar covered
    rw [talk] at reads
    exact takeRequest_does spelled reads
  · intro earpiece e spelled onEar covered a
    exact takeRequest_does spelled (readAccessory_reads onEar covered)
  · intro line k spelled onLine covered l
    exact takeRequest_does spelled (readField_reads onLine covered)
  · intro spelled r
    exact takeRequest_does spelled readReference_reads

end Sys2Proof.Machine

/-! SUPPORT. The span of a READ_LEVELS and O35; the talk requests on a free earpiece, behind a holder and above one: O36, O37 and
O38. -/

namespace Sys2Proof.Machine

/-! ### READ_LEVELS (R85) -/

theorem filter_lt_range (n m : Nat) : (List.range m).filter (fun i => decide (i < n)) = List.range (min n m) := by
  rcases Nat.le_total n m with le | le
  · obtain ⟨k, rfl⟩ := Nat.exists_eq_add_of_le le
    have low : (List.range n).filter (fun i => decide (i < n)) = List.range n :=
      List.filter_eq_self.mpr fun i mem => decide_eq_true (List.mem_range.mp mem)
    rw [List.range_add, List.filter_append, low, Nat.min_eq_left le]
    simp
  · rw [Nat.min_eq_right le]
    exact List.filter_eq_self.mpr fun i mem => decide_eq_true (by have := List.mem_range.mp mem; omega)

/-- The span in ascending order: as many destinations as fit below 48 (R85). -/
theorem span_vals (d0 : Dest) (n : Nat) :
    (span d0 n).map (·.val) = (List.range (min n (48 - d0.val))).map (d0.val + ·) := by
  have vals : (span d0 n).map (·.val) =
      (List.range 48).filter fun i => decide (d0.val ≤ i) && decide (i < d0.val + n) := by
    rw [← List.map_coe_finRange_eq_range, List.filter_map]
    rfl
  have halves : List.range 48 = List.range d0.val ++ (List.range (48 - d0.val)).map (d0.val + ·) := by
    rw [← List.range_add, Nat.add_sub_cancel' (by omega)]
  have below : (List.range d0.val).filter (fun i => decide (d0.val ≤ i) && decide (i < d0.val + n)) = [] := by
    refine List.filter_eq_nil_iff.mpr fun i mem => ?_
    have := List.mem_range.mp mem
    simp; omega
  have shift : ((fun i => decide (d0.val ≤ i) && decide (i < d0.val + n)) ∘ fun j => d0.val + j) =
      fun j => decide (j < n) := by
    funext j
    simp
  rw [vals, halves, List.filter_append, below, List.nil_append, List.filter_map, shift, filter_lt_range]

theorem span_length (d0 : Dest) (n : Nat) : (span d0 n).length = min n (48 - d0.val) := by
  have := congrArg List.length (span_vals d0 n)
  simpa using this

theorem mem_span {d0 d : Dest} {n : Nat} : d ∈ span d0 n ↔ d0.val ≤ d.val ∧ d.val < d0.val + min n (48 - d0.val) := by
  simp only [span, List.mem_filter, List.mem_finRange, true_and, Bool.and_eq_true, decide_eq_true_eq]
  omega

/-- A destination's reading: its meter where the asker's windows cover it, zeros elsewhere (R85). -/
theorem levelBytes_eq (s : State) (p : Port) (d : Dest) : levelBytes (s.access.covers p d) (s.meter d) =
    if (s.access.governing p d).isSome = true then
      [byte ((s.meter d).peak / 65536), byte ((s.meter d).peak / 256), byte (s.meter d).peak,
        if (s.meter d).clip then 1 else 0]
    else [0, 0, 0, 0] := by
  rw [covers_iff_governing]
  rfl

/-- The meters after a READ_LEVELS of the destinations `ds`: the covered ones cleared (R85). -/
def State.metersRead (s : State) (p : Port) (ds : List Dest) : Vector Meter 48 :=
  remap s.mix.meters fun d m => if d ∈ ds ∧ s.access.covers p d then { peak := 0, clip := false } else m

theorem readLevels_reads {s : State} {p : Port} {first count : Byte} {d0 : Dest} (onFirst : first.toNat = d0.val) :
    readLevels p first count s =
      ({ s with mix := { s.mix with meters := s.metersRead p (span d0 (clampCount count)) } },
        okAnswer ([byte d0.val, byte (span d0 (clampCount count)).length] ++
          (span d0 (clampCount count)).flatMap fun d => levelBytes (s.access.covers p d) (s.meter d))) := by
  simp only [readLevels, inClass_eq onFirst, State.metersRead]

/-- Settles O35: the covered meters of the span are read and cleared. -/
theorem readLevelsReadsAndClears : Obligations.ReadLevelsReadsAndClears := by
  intro s p tag first count d0 spelled onFirst n covered reading
  have number : byte d0.val = first := BitVec.eq_of_toNat_eq (by rw [onFirst, byte_toNat (by omega)])
  have reads := readLevels_reads (s := s.endTransaction p) (p := p) (count := count) onFirst
  rw [number, span_length, funext (levelBytes_eq (s.endTransaction p) p)] at reads
  refine ⟨s.metersRead p (span d0 (clampCount count)), span d0 (clampCount count), span_vals _ _, fun d => ?_,
    takeRequest_does spelled reads⟩
  rw [State.metersRead, get_remap]
  simp only [mem_span, and_assoc, covers_iff_governing]
  rfl

/-! ### The pieces of a grant -/

section Record
variable {f : Foldback} {e : Earpiece} {t h : TalkRec} {r : Byte}

theorem startLimit_eq (f : Foldback) :
    f.startLimit = { f with limitTimer := if f.limit = 0 then none else some (48000 * f.limit.toNat) } := by
  simp only [Foldback.startLimit, Config.framesPerSecond, Nat.mul_comm]

theorem duckBed_eq (f : Foldback) :
    f.duckBed = { f with bed := f.bed.aim (if f.bedSource = none then 0 else gain f.duck) 48 } := by
  unfold Foldback.duckBed Foldback.bedTarget
  cases f.bedSource <;> simp [Config.shortRamp]

theorem restoreBed_eq (f : Foldback) (fade : Nat) :
    f.restoreBed fade = { f with bed := f.bed.aim (if f.bedSource = none then 0 else gain f.nominal) fade } := by
  unfold Foldback.restoreBed Foldback.bedTarget
  cases f.bedSource <;> simp

theorem openSlot_eq (f : Foldback) (x : Talker) :
    f.openSlot x = { f with slotSource := some x, slot := f.slot.aim (gain f.interrupt) 48 true } := rfl

theorem grantIdle_lead (lead : f.lead ≠ 0) : f.grantIdle t =
    { f with holder := some t, state := .lead, stateTimer := some (48 * f.lead.val),
             limitTimer := if f.limit = 0 then none else some (48000 * f.limit.toNat),
             bed := f.bed.aim (if f.bedSource = none then 0 else gain f.duck) 48 } := by
  simp only [Foldback.grantIdle, if_neg lead, duckBed_eq, startLimit_eq, Config.framesPerMs, Nat.mul_comm]

theorem grantIdle_talk (lead : f.lead = 0) : f.grantIdle t =
    { f with holder := some t, state := .talk, stateTimer := none,
             limitTimer := if f.limit = 0 then none else some (48000 * f.limit.toNat),
             bed := f.bed.aim (if f.bedSource = none then 0 else gain f.duck) 48,
             slotSource := some t.talker, slot := f.slot.aim (gain f.interrupt) 48 true } := by
  simp only [Foldback.grantIdle, if_pos lead, duckBed_eq, startLimit_eq, openSlot_eq]

theorem grantHold_eq (f : Foldback) (t : TalkRec) : f.grantHold t =
    { f with holder := some t, state := .talk, stateTimer := none,
             limitTimer := if f.limit = 0 then none else some (48000 * f.limit.toNat),
             slotSource := some t.talker, slot := f.slot.aim (gain f.interrupt) 48 true } := by
  simp only [Foldback.grantHold, startLimit_eq, openSlot_eq]

/-! ### A TALK_REQUEST on a record, case by case (R94 to R98) -/

theorem request_standing (stands : f.standing t.port = some r) :
    f.request e t = ((f, []), { outcome := .state, results := [r] }) := by
  simp only [Foldback.request, stands]

theorem request_idle (fresh : f.standing t.port = none) (free : f.holder = none) (idle : f.state ≠ .hold) :
    f.request e t = ((f.grantIdle t, []), (f.grantIdle t).talkResult) := by
  simp only [Foldback.request, fresh, free, if_neg idle]

theorem request_hold (fresh : f.standing t.port = none) (free : f.holder = none) (hold : f.state = .hold) :
    f.request e t = ((f.grantHold t, []), (f.grantHold t).talkResult) := by
  simp only [Foldback.request, fresh, free, if_pos hold]

theorem request_above (fresh : f.standing t.port = none) (holder : f.holder = some h) (above : h.priority < t.priority) :
    f.request e t = (f.preempt e h t, (f.preempt e h t).1.talkResult) := by
  simp only [Foldback.request, fresh, holder, if_pos above]

theorem request_waits (fresh : f.standing t.port = none) (holder : f.holder = some h) (below : t.priority ≤ h.priority)
    (room : f.queue.length < 2) :
    f.request e t = (({ f with queue := enqueue t f.queue }, []),
      { outcome := .queued, results := [byte (queuePosition (enqueue t f.queue) t.port), byte h.port.val] }) := by
  simp only [Foldback.request, fresh, holder, if_neg (BitVec.not_lt.mpr below), Config.waitingCapacity, if_pos room]

theorem request_full (fresh : f.standing t.port = none) (holder : f.holder = some h) (below : t.priority ≤ h.priority)
    (full : 2 ≤ f.queue.length) : f.request e t = ((f, []), { outcome := .full, results := [3] }) := by
  simp only [Foldback.request, fresh, holder, if_neg (BitVec.not_lt.mpr below), Config.waitingCapacity,
    if_neg (Nat.not_lt.mpr full)]
  rfl

theorem talkResult_lead (lead : f.state = .lead) : f.talkResult = { outcome := .ok, results := [1] } := by
  simp only [Foldback.talkResult, if_pos lead]
  rfl

theorem talkResult_talk (talk : f.state = .talk) : f.talkResult = { outcome := .ok, results := [2] } := by
  simp [Foldback.talkResult, talk, okAnswer, resultTalk]

/-- A record placed in the queue stands behind the records of its priority and above, which came before it, and ahead of those
below (R93, R97). -/
theorem enqueue_split {a b : List TalkRec} (later : ∀ u ∈ a, u.arrival < t.arrival) (above : ∀ u ∈ a, t.priority ≤ u.priority)
    (below : ∀ u ∈ b, u.priority < t.priority) : enqueue t (a ++ b) = a ++ t :: b := by
  induction a with
  | nil => exact enqueue_of_before fun u mem => before_iff.mpr (.inl (BitVec.lt_def.mp (below u mem)))
  | cons u a ih =>
    have after : t.before u = false := Bool.eq_false_iff.mpr fun before => by
      have := before_iff.mp before
      have := BitVec.le_def.mp (above u (by simp))
      have := later u (by simp)
      omega
    have rest := ih (fun v mem => later v (by simp [mem])) (fun v mem => above v (by simp [mem]))
    simp [enqueue, after, rest]

theorem queuePosition_split {a b : List TalkRec} (fresh : ∀ u ∈ a, u.port ≠ t.port) :
    queuePosition (a ++ t :: b) t.port = a.length + 1 := by
  induction a with
  | nil => simp [queuePosition, List.findIdx_cons]
  | cons u a ih =>
    have rest := ih fun v mem => fresh v (by simp [mem])
    simp only [queuePosition, List.cons_append, List.findIdx_cons, fresh u (by simp), List.length_cons] at rest ⊢
    simpa using rest

/-- A port that has a record and is not the holder waits (R94). -/
theorem standing_waiting {p : Port} (other : ∀ h, f.holder = some h → h.port ≠ p) (waits : ∃ u ∈ f.queue, u.port = p) :
    f.standing p = some resultWaiting := by
  have notHolder : ¬ f.holder.map (·.port) = some p := by
    simpa using other
  simp only [Foldback.standing, if_neg notHolder]
  simpa using waits

end Record

/-! ### The request on the state -/

section Request
variable {s : State} {p : Port} {tag earpiece talker : Byte} {e : Earpiece} {x : Talker} {w : Window} {step : TalkStep} {a : Answer}

theorem talkOn_made {origin : Option Group} (write : s.access.checkWrite p (earDest e) = .ok w)
    (does : (s.fb e).request e (s.newTalk p w x origin) = (step, a)) (made : a.outcome = .ok ∨ a.outcome = .queued) :
    s.talkOn p e x origin = (s.nextArrival.setTalk e step, a) := by
  rw [talkOn_ok write, does, if_pos made]

theorem talkOn_refused {origin : Option Group} (write : s.access.checkWrite p (earDest e) = .ok w)
    (does : (s.fb e).request e (s.newTalk p w x origin) = (step, a)) (refused : ¬ (a.outcome = .ok ∨ a.outcome = .queued)) :
    s.talkOn p e x origin = (s, a) := by
  rw [talkOn_ok write, does, if_neg refused]

theorem talkRequest_on (onEar : earpiece.toNat = e.val) (onTalker : talker.toNat = x.val) :
    talkRequest p earpiece talker s = s.talkOn p e x none := by
  simp only [talkRequest, inClass_eq onEar, inClass_eq onTalker]

variable (spelled : s.spelled p (.talkRequest p earpiece talker) = some tag) (onEar : earpiece.toNat = e.val)
  (onTalker : talker.toNat = x.val) (governs : s.access.governing p (earDest e) = some w) (writable : w.listenOnly = false)
include spelled onEar onTalker governs writable

theorem exec_talkRequest_made (does : (s.fb e).request e (s.newTalk p w x none) = (step, a))
    (made : a.outcome = .ok ∨ a.outcome = .queued) :
    exec (.talkRequest p earpiece talker) s =
      .next (((s.endTransaction p).nextArrival.setTalk e step).reply p tag a) :=
  takeRequest_does spelled ((talkRequest_on onEar onTalker).trans
    (talkOn_made (s := s.endTransaction p) (checkWrite_ok.mpr ⟨governs, writable⟩) does made))

theorem exec_talkRequest_refused (does : (s.fb e).request e (s.newTalk p w x none) = (step, a))
    (refused : ¬ (a.outcome = .ok ∨ a.outcome = .queued)) :
    exec (.talkRequest p earpiece talker) s = .next ((s.endTransaction p).reply p tag a) :=
  takeRequest_does spelled ((talkRequest_on onEar onTalker).trans
    (talkOn_refused (s := s.endTransaction p) (checkWrite_ok.mpr ⟨governs, writable⟩) does refused))

end Request

/-- Settles O36: the grants from IDLE and from HOLD. -/
theorem talkIsGrantedOnAFreeEarpiece : Obligations.TalkIsGrantedOnAFreeEarpiece := by
  intro s p tag earpiece talker e x w spelled onEar onTalker governs writable free empty f made limit ducked u v becomes
  have fresh : f.standing made.port = none := standing_none.mpr (by rw [records_of_free free, empty]; simp)
  refine ⟨fun idle lead => ?_, fun idle lead => ?_, fun hold => ?_⟩
  · have does := request_idle (e := e) fresh free (by simp [f, idle])
    rw [grantIdle_lead lead, talkResult_lead rfl] at does
    exact exec_talkRequest_made spelled onEar onTalker governs writable does (.inl rfl)
  · have does := request_idle (e := e) fresh free (by simp [f, idle])
    rw [grantIdle_talk lead, talkResult_talk rfl] at does
    exact exec_talkRequest_made spelled onEar onTalker governs writable does (.inl rfl)
  · have does := request_hold (e := e) fresh free hold
    rw [grantHold_eq, talkResult_talk rfl] at does
    exact exec_talkRequest_made spelled onEar onTalker governs writable does (.inl rfl)

/-- Settles O37: the port's own records are refused first; a later record joins at the end of its class. -/
theorem talkWaitsBehindAnEqualHolder : Obligations.TalkWaitsBehindAnEqualHolder := by
  intro s p tag earpiece talker e x w spelled onEar onTalker governs writable f u answered
  have refused : ∀ {step a}, f.request e (s.newTalk p w x none) = (step, a) → ¬ (a.outcome = .ok ∨ a.outcome = .queued) →
      answered a := exec_talkRequest_refused spelled onEar onTalker governs writable
  refine ⟨fun h holder own => refused (request_standing (standing_holder.mpr ⟨h, holder, own⟩)) (by simp),
    fun other waits => refused (request_standing (standing_waiting other waits)) (by simp),
    fun h holder other waiting below => ?_⟩
  have fresh : f.standing p = none := standing_none.mpr (by
    rw [records_of_holder holder]
    simpa using ⟨other, waiting⟩)
  refine ⟨fun full => refused (request_full fresh holder below full) (by simp), ?_⟩
  intro a b split room later above low made v
  have does := request_waits (e := e) (t := made) fresh holder below room
  have queue : enqueue made f.queue = a ++ made :: b := by
    rw [split, enqueue_split (fun t mem => later t (by simp [split, mem])) above low]
  have position : queuePosition (a ++ made :: b) made.port = a.length + 1 :=
    queuePosition_split fun t mem => waiting t (by simp [split, mem])
  rw [queue, position] at does
  exact exec_talkRequest_made spelled onEar onTalker governs writable does (.inr rfl)

/-! ### Preemption (R98, R99) -/

section Preempt
variable {f : Foldback} {e : Earpiece} {h t : TalkRec} {q d : List TalkRec} (fresh : f.standing t.port = none)
  (holder : f.holder = some h) (above : h.priority < t.priority) (queue : preemptedQueue h f.queue = (q, d))
include fresh holder above queue

theorem request_above_lead (lead : f.state = .lead) : f.request e t =
    (({ f with holder := some t, queue := q,
               limitTimer := if f.limit = 0 then none else some (48000 * f.limit.toNat) },
      talkPreempted e h t.port :: d.map fun u => talkEnded e u reasonDisplaced), { outcome := .ok, results := [1] }) := by
  have off : f.state ≠ .talk := by simp [lead]
  rw [request_above fresh holder above]
  simp only [Foldback.preempt, queue, if_neg off, startLimit_eq]
  exact congrArg _ (talkResult_lead lead)

theorem request_above_talk (talk : f.state = .talk) : f.request e t =
    (({ f with holder := some t, queue := q,
               limitTimer := if f.limit = 0 then none else some (48000 * f.limit.toNat),
               slotSource := some t.talker, slot := f.slot.aim (gain f.interrupt) 48 true },
      talkPreempted e h t.port :: d.map fun u => talkEnded e u reasonDisplaced), { outcome := .ok, results := [2] }) := by
  rw [request_above fresh holder above]
  simp only [Foldback.preempt, queue, if_pos talk, startLimit_eq, openSlot_eq]
  exact congrArg _ (talkResult_talk talk)

end Preempt

/-- Settles O38: the old holder goes to the front; of three waiting records the last is displaced. -/
theorem talkPreemptsALowerHolder : Obligations.TalkPreemptsALowerHolder := by
  intro s p tag earpiece talker e x w h spelled onEar onTalker governs writable holder above others ranks f made limit u v
    preempted displaced becomes g opened
  have fresh : f.standing made.port = none := standing_none.mpr others
  have before : ∀ t ∈ f.queue, h.before t = true := fun t mem => before_iff.mpr <| (ranks t mem).imp BitVec.lt_def.mp
    fun ⟨same, first⟩ => ⟨congrArg BitVec.toNat same.symm, first⟩
  have queue := preemptedQueue_eq before
  have becomes_of : ∀ {step a}, f.request e (s.newTalk p w x none) = (step, a) → (a.outcome = .ok ∨ a.outcome = .queued) →
      exec (.talkRequest p earpiece talker) s = .next ((u.nextArrival.setTalk e step).reply p tag a) :=
    exec_talkRequest_made spelled onEar onTalker governs writable
  refine ⟨fun room => ?_, fun t1 t2 full => ?_⟩
  · have fits : (h :: f.queue).length ≤ Config.waitingCapacity := by simp [Config.waitingCapacity]; omega
    rw [List.take_of_length_le fits, List.drop_of_length_le fits] at queue
    exact ⟨fun lead => becomes_of (request_above_lead fresh holder above queue lead) (.inl rfl),
      fun talk => becomes_of (request_above_talk fresh holder above queue talk) (.inl rfl)⟩
  · have displaces : preemptedQueue h f.queue = ([h, t1], [t2]) := by rw [queue, full]; rfl
    exact ⟨fun lead => becomes_of (request_above_lead fresh holder above displaces lead) (.inl rfl),
      fun talk => becomes_of (request_above_talk fresh holder above displaces talk) (.inl rfl)⟩

end Sys2Proof.Machine

/-! SUPPORT. Releases, expiries, settings and groups of the foldback controller: O39, O40, O41 and O42. -/

namespace Sys2Proof.Machine

section Record
variable {f : Foldback} {e : Earpiece} {fade : Nat} {p : Port}

/-! ### A holder that leaves, a record that is withdrawn (R103, R104) -/

theorem holderLeaves_granted {t : TalkRec} {rest : List TalkRec} (queue : f.queue = t :: rest) : f.holderLeaves e fade =
    ({ f with holder := some t, queue := rest, state := .talk, stateTimer := none,
              limitTimer := if f.limit = 0 then none else some (48000 * f.limit.toNat),
              slotSource := some t.talker, slot := f.slot.aim (gain f.interrupt) 48 true }, [talkGranted e t]) := by
  unfold Foldback.holderLeaves
  rw [queue]
  simp only [startLimit_eq, openSlot_eq]

theorem holderLeaves_hold (queue : f.queue = []) (hold : f.hold ≠ 0) : f.holderLeaves e fade =
    ({ f with holder := none, state := .hold, stateTimer := some (480 * f.hold.toNat), limitTimer := none,
              slot := f.slot.aim 0 48 }, []) := by
  have time : f.hold.toNat * 10 * Config.framesPerMs = 480 * f.hold.toNat := by simp only [Config.framesPerMs]; omega
  unfold Foldback.holderLeaves
  simp only [queue, if_neg hold, time, Foldback.closeSlot, Config.shortRamp]

theorem holderLeaves_idle (queue : f.queue = []) (hold : f.hold = 0) : f.holderLeaves e fade =
    ({ f with holder := none, state := .idle, stateTimer := none, limitTimer := none, slot := f.slot.aim 0 48,
              bed := f.bed.aim (if f.bedSource = none then 0 else gain f.nominal) fade }, []) := by
  unfold Foldback.holderLeaves
  simp only [queue, if_pos hold, restoreBed_eq, Foldback.closeSlot, Config.shortRamp]

theorem withdraw_holder (standing : f.standing p = some resultHolder) : f.withdraw e fade p = f.holderLeaves e fade := by
  rw [Foldback.withdraw, if_pos standing]

theorem withdraw_waiting {a b : List TalkRec} {t : TalkRec} (standing : f.standing p = some resultWaiting)
    (queue : f.queue = a ++ t :: b) (own : t.port = p) (others : ∀ y ∈ a ++ b, y.port ≠ p) :
    f.withdraw e fade p = ({ f with queue := a ++ b }, []) := by
  have kept : ∀ l : List TalkRec, (∀ y ∈ l, y.port ≠ p) → l.filter (fun y => !decide (y.port = p)) = l :=
    fun l h => List.filter_eq_self.mpr fun y mem => by simp [h y mem]
  have left : f.queue.filter (fun y => !decide (y.port = p)) = a ++ b := by
    rw [queue, List.filter_append, List.filter_cons_of_neg (by simp [own]), kept a fun y mem => others y (by simp [mem]),
      kept b fun y mem => others y (by simp [mem])]
  rw [Foldback.withdraw, if_neg (by simp [standing, resultHolder, resultWaiting]), Foldback.withdrawWaiting, left]

end Record

/-! ### TALK_RELEASE (R104) -/

section Release
variable {s : State} {p : Port} {tag earpiece : Byte} {e : Earpiece} {w : Window} {r : Byte}

theorem releaseOn_standing (write : s.access.checkWrite p (earDest e) = .ok w) (stands : (s.fb e).standing p = some r) :
    s.releaseOn p e = (s.setTalk e ((s.fb e).withdraw e (s.fadeLength (earDest e)) p), okAnswer [r]) := by
  simp only [State.releaseOn, write, stands]

theorem releaseOn_absent (write : s.access.checkWrite p (earDest e) = .ok w) (absent : (s.fb e).standing p = none) :
    s.releaseOn p e = (s, { outcome := .absent }) := by
  simp only [State.releaseOn, write, absent]

theorem talkRelease_on (onEar : earpiece.toNat = e.val) : talkRelease p earpiece s = s.releaseOn p e := by
  simp only [talkRelease, inClass_eq onEar]

end Release

/-- Settles O39: by where the port's record stands. -/
theorem talkReleaseHandsOver : Obligations.TalkReleaseHandsOver := by
  intro s p tag earpiece e w spelled onEar governs writable f u limit becomes
  have write : u.access.checkWrite p (earDest e) = .ok w := checkWrite_ok.mpr ⟨governs, writable⟩
  have released : ∀ {g posts r}, f.standing p = some r → f.withdraw e (s.fadeLength (earDest e)) p = (g, posts) →
      becomes g posts r := fun stands withdraws =>
    takeRequest_does spelled ((talkRelease_on onEar).trans ((releaseOn_standing write stands).trans
      (congrArg (fun x => (u.setTalk e x, okAnswer [_])) withdraws)))
  refine ⟨fun h holder own => ?_, fun other => ⟨fun a t b queue own others => ?_, fun waiting => ?_⟩⟩
  · have stands := standing_holder.mpr ⟨h, holder, own⟩
    have leaves := withdraw_holder (e := e) (fade := s.fadeLength (earDest e)) stands
    exact ⟨fun t rest queue => released stands (leaves.trans (holderLeaves_granted queue)),
      fun queue hold => released stands (leaves.trans (holderLeaves_hold queue hold)),
      fun queue hold => released stands (leaves.trans (holderLeaves_idle queue hold))⟩
  · have stands := standing_waiting other ⟨t, by simp [queue], own⟩
    exact released stands (withdraw_waiting stands queue own others)
  · have absent : f.standing p = none := standing_none.mpr fun t mem => by
      rcases List.mem_append.mp mem with holds | waits
      · exact other t (by simpa using holds)
      · exact waiting t waits
    exact takeRequest_does spelled ((talkRelease_on onEar).trans (releaseOn_absent write absent))

/-! ### The expiries (R100, R102, R105) -/

theorem due_iff {t : Option Nat} : due t = true ↔ t = some 0 := by simp [due]

/-- Settles O40: each expiry where its timer has run down, and nothing elsewhere. -/
theorem foldbackTimersExpire : Obligations.FoldbackTimersExpire := by
  intro s e t f
  refine ⟨fun lead timer holder => ?_, fun hold timer => ?_, fun timer holder => ?_, fun running => ⟨?_, ?_⟩, fun running => ?_⟩
  · rw [exec_leadExpiry, if_pos ⟨lead, due_iff.mpr timer⟩]
    have ends : f.leadEnds = { f with state := .talk, stateTimer := none : Foldback }.openSlot t.talker := by
      simp only [Foldback.leadEnds, holder, f]
    exact congrArg (fun g => Host.Outcome.next (s.putFb e g)) ends
  · rw [exec_holdExpiry, if_pos ⟨hold, due_iff.mpr timer⟩, Foldback.holdEnds, restoreBed_eq]
    rfl
  · have holds : (s.fb e).holder = some t := holder
    have ran : due (s.fb e).limitTimer = true := due_iff.mpr timer
    rw [exec_limitExpiry]
    simp only [holds, ran, if_true]
    rfl
  · rw [exec_leadExpiry, if_neg fun h => running (due_iff.mp h.2)]
  · rw [exec_holdExpiry, if_neg fun h => running (due_iff.mp h.2)]
  · rw [exec_limitExpiry]
    split
    · rw [if_neg fun h => running (due_iff.mp h)]
    · rfl

/-! ### SET_FOLDBACK (R109) -/

theorem bedTarget_eq (f : Foldback) (st : FoldbackState) :
    f.bedTarget st = if f.bedSource = none then 0 else if st = .idle then gain f.nominal else gain f.duck := by
  unfold Foldback.bedTarget
  cases f.bedSource <;> simp

section Settings
variable {f g : Foldback} {fade : Nat}

theorem rebed_silenced (old : f.bedSource ≠ none) (new : g.bedSource = none) :
    (f.rebed g fade).bed = { cur := 0, target := 0, step := 0 } := by
  obtain ⟨b, was⟩ := Option.ne_none_iff_exists'.mp old
  simp [Foldback.rebed, was, new, Ramp.aim]

theorem rebed_started (old : f.bedSource = none) (new : g.bedSource ≠ none) :
    (f.rebed g fade).bed = g.bed.aim (g.bedTarget g.state) (if g.state = .idle then fade else 48) true := by
  obtain ⟨b, is⟩ := Option.ne_none_iff_exists'.mp new
  simp [Foldback.rebed, old, is, Config.shortRamp]

theorem rebed_kept (same : f.bedSource = none ↔ g.bedSource = none) :
    (f.rebed g fade).bed = if g.bedTarget g.state = g.bed.target then g.bed
      else g.bed.aim (g.bedTarget g.state) (if g.state = .idle then fade else 48) := by
  cases was : f.bedSource <;> cases is : g.bedSource <;> simp [was, is] at same <;>
    simp only [Foldback.rebed, was, is, Config.shortRamp] <;> split <;> rfl

/-- Of the record with its new settings only the bed and the slot move (R109). -/
theorem resettle_eq (f g : Foldback) (fade : Nat) : f.reslot (f.rebed g fade) =
    { g with bed := (f.rebed g fade).bed,
             slot := if g.state = .talk ∧ g.interrupt ≠ f.interrupt then g.slot.aim (gain g.interrupt) 48 else g.slot } := by
  obtain ⟨r, rebed, -⟩ := rebed_cases f g fade
  rw [rebed, Foldback.reslot]
  split <;> rfl

end Settings

theorem setFoldback_stores {s : State} {p : Port} {earpiece bed nominal duck interrupt lead hold limit : Byte} {e : Earpiece}
    {w : Window} {b : Option Programme} (onEar : earpiece.toNat = e.val) (onBed : readBed bed = some b)
    (write : s.access.checkWrite p (earDest e) = .ok w) {g : Foldback}
    (settings : (s.fb e).settings b (clampLevel nominal) (clampLevel duck) (clampLevel interrupt) (clampLead lead) hold limit = g) :
    setFoldback p earpiece bed nominal duck interrupt lead hold limit s =
      (s.putFb e { g with
          bed := ((s.fb e).rebed g (s.fadeLength (earDest e))).bed,
          slot := if g.state = .talk ∧ g.interrupt ≠ (s.fb e).interrupt then g.slot.aim (gain g.interrupt) 48 else g.slot },
        okAnswer [byte g.nominal.val, byte g.duck.val]) := by
  subst settings
  rw [← resettle_eq]
  simp only [setFoldback, inClass_eq onEar, onBed, write]

theorem level_max_val (a b : Level) : (max a b).val = max a.val b.val := by
  rcases Nat.le_total a.val b.val with le | le
  · rw [max_eq_right (a := a) (b := b) le, Nat.max_eq_right le]
  · rw [max_eq_left (a := a) (b := b) le, Nat.max_eq_left le]

/-- Settles O41: the settings stored, then the bed and the slot by R109. -/
theorem setFoldbackActsOnTheRunningState : Obligations.SetFoldbackActsOnTheRunningState := by
  intro s p tag earpiece bed nominal duck interrupt lead hold limit e w b spelled onEar onBed governs writable
  have write : (s.endTransaction p).access.checkWrite p (earDest e) = .ok w := checkWrite_ok.mpr ⟨governs, writable⟩
  let f := s.fb e
  let g := f.settings b (clampLevel nominal) (clampLevel duck) (clampLevel interrupt) (clampLead lead) hold limit
  have target : g.bedTarget g.state = if b = none then 0 else if f.state = .idle then gain g.nominal else gain g.duck :=
    bedTarget_eq g g.state
  have stores := takeRequest_does spelled
    (setFoldback_stores (s := s.endTransaction p) (g := g) onEar (readBed_eq onBed) write rfl)
  refine ⟨_, stores, rfl, clampLevel_val _, ?_, clampLevel_val _, clampLead_val _, rfl, rfl, rfl, rfl, rfl, rfl, rfl, rfl,
    fun old new => ?_, fun old new => ?_, fun same still => ?_, fun same moved => ?_, fun talk moved => if_pos ⟨talk, moved⟩,
    fun still => if_neg fun moved => ?_⟩
  · exact (level_max_val _ _).trans (by rw [clampLevel_val, clampLevel_val])
  · have silent := rebed_silenced (g := g) (fade := s.fadeLength (earDest e)) old new
    exact ⟨congrArg Ramp.cur silent, congrArg Ramp.target silent⟩
  · have started := rebed_started (g := g) (fade := s.fadeLength (earDest e)) old new
    rwa [target] at started
  · have kept := rebed_kept (g := g) (fade := s.fadeLength (earDest e)) same
    rw [target] at kept
    exact kept.trans (if_pos still.symm)
  · have kept := rebed_kept (g := g) (fade := s.fadeLength (earDest e)) same
    rw [target] at kept
    exact kept.trans (if_neg (Ne.symm moved))
  · exact still.elim (fun off => off moved.1) moved.2

end Sys2Proof.Machine

/-! SUPPORT. Group requests visit their members as single requests would: O42. -/

namespace Sys2Proof.Machine

/-- The record as a request for group `g` of port `p` makes it: of origin `g` where it is the port's own (R113). -/
def TalkRec.forGroup (p : Port) (g : Group) (t : TalkRec) : TalkRec := if t.port = p then { t with origin := some g } else t

/-- The foldback record with the port's own talk record of origin `g`. -/
def Foldback.forGroup (p : Port) (g : Group) (f : Foldback) : Foldback :=
  { f with holder := f.holder.map (TalkRec.forGroup p g), queue := f.queue.map (TalkRec.forGroup p g) }

section Record
variable {p : Port} {g : Group} {f : Foldback} {e : Earpiece} {t h : TalkRec} {q : List TalkRec}

theorem forGroup_own (own : t.port = p) : t.forGroup p g = { t with origin := some g } := if_pos own

theorem forGroup_other (other : t.port ≠ p) : t.forGroup p g = t := if_neg other

theorem map_forGroup_fresh (fresh : ∀ u ∈ q, u.port ≠ p) : q.map (TalkRec.forGroup p g) = q :=
  (List.map_congr_left fun u mem => forGroup_other (fresh u mem)).trans (List.map_id' q)

theorem map_forGroup_enqueue (own : t.port = p) (fresh : ∀ u ∈ q, u.port ≠ p) :
    (enqueue t q).map (TalkRec.forGroup p g) = enqueue (t.forGroup p g) q := by
  have rank : ∀ u, (t.forGroup p g).before u = t.before u := fun u => by rw [forGroup_own own]; rfl
  induction q with
  | nil => rfl
  | cons u q ih =>
    obtain ⟨other, rest⟩ := List.forall_mem_cons.mp fresh
    simp only [enqueue, rank]
    split
    · simp [forGroup_other other, map_forGroup_fresh rest]
    · simp [forGroup_other other, ih rest]

/-- What a request that makes a record leaves, for itself and for a group. -/
def MadeAlike (p : Port) (g : Group) (one group : TalkStep × Answer) : Prop :=
  group.2 = one.2 ∧ (one.2.outcome = .ok ∨ one.2.outcome = .queued) ∧
    (∃ u ∈ one.1.1.records, u.port = p ∧ u.origin = none) ∧ group.1 = (one.1.1.forGroup p g, one.1.2)

theorem forGroup_port (t : TalkRec) : (t.forGroup p g).port = t.port := by
  unfold TalkRec.forGroup
  split <;> rfl

theorem grantIdle_holder (f : Foldback) (t : TalkRec) :
    (f.grantIdle t).holder = some t ∧ (f.grantIdle t).queue = f.queue := by
  unfold Foldback.grantIdle
  dsimp only
  split <;> exact ⟨rfl, rfl⟩

theorem preempt_waiting (other : ∀ u ∈ f.records, u.port ≠ p) (holder : f.holder = some h) :
    ∀ u ∈ (f.preempt e h t).1.queue, u.port ≠ p := fun u mem => by
  rw [preempt_queue] at mem
  rw [records_of_holder holder] at other
  exact other u (List.mem_cons.mpr (mem_enqueue.mp (List.mem_of_mem_take mem)))

variable (own : t.port = p) (single : t.origin = none)
include own

theorem grantIdle_forGroup (f : Foldback) :
    f.grantIdle (t.forGroup p g) = { f.grantIdle t with holder := some (t.forGroup p g) } := by
  rw [forGroup_own own]
  unfold Foldback.grantIdle
  dsimp only
  split <;> rfl

theorem grantHold_forGroup (f : Foldback) :
    f.grantHold (t.forGroup p g) = { f.grantHold t with holder := some (t.forGroup p g) } := by
  rw [forGroup_own own]
  rfl

theorem preempt_forGroup (f : Foldback) (e : Earpiece) (h : TalkRec) : f.preempt e h (t.forGroup p g) =
    ({ (f.preempt e h t).1 with holder := some (t.forGroup p g) }, (f.preempt e h t).2) := by
  rw [forGroup_own own]
  unfold Foldback.preempt
  dsimp only
  split <;> rfl

theorem queuePosition_forGroup (fresh : ∀ u ∈ q, u.port ≠ p) :
    queuePosition (enqueue (t.forGroup p g) q) (t.forGroup p g).port = queuePosition (enqueue t q) t.port := by
  rw [← map_forGroup_enqueue own fresh, queuePosition, queuePosition, List.findIdx_map]
  simp only [Function.comp_def, forGroup_port]

include single

/-- A grant makes the request's record the holder, over a queue of other ports. -/
theorem madeAlike_holder {f f' : Foldback} {posts : List Post} {a : Answer} (made : a.outcome = .ok)
    (holder : f.holder = some t) (fresh : ∀ u ∈ f.queue, u.port ≠ p) (same : f' = { f with holder := some (t.forGroup p g) }) :
    MadeAlike p g ((f, posts), a) ((f', posts), a) := by
  refine ⟨rfl, .inl made, ⟨t, by simp [Foldback.records, holder], own, single⟩, ?_⟩
  simp only [same, Foldback.forGroup, holder, map_forGroup_fresh fresh, Option.map_some]

/-- A TALK_REQUEST for a group answers as the single one does, and makes the same record but for its origin (R113). -/
theorem request_forGroup (f : Foldback) (e : Earpiece) :
    MadeAlike p g (f.request e t) (f.request e (t.forGroup p g)) ∨
      ((f.request e (t.forGroup p g)).2 = (f.request e t).2 ∧
        ¬ ((f.request e t).2.outcome = .ok ∨ (f.request e t).2.outcome = .queued)) := by
  have port : (t.forGroup p g).port = t.port := by rw [forGroup_own own]
  have priority : (t.forGroup p g).priority = t.priority := by rw [forGroup_own own]
  cases stands : f.standing t.port with
  | some r => exact .inr (by rw [request_standing stands, request_standing (port ▸ stands)]; exact ⟨rfl, by simp⟩)
  | none =>
    have fresh : ∀ u ∈ f.records, u.port ≠ p := own ▸ standing_none.mp stands
    have waiting : ∀ u ∈ f.queue, u.port ≠ p := fun u mem => fresh u (List.mem_append_right _ mem)
    have stands' := port.symm ▸ stands
    cases holder : f.holder with
    | none =>
      refine .inl ?_
      by_cases hold : f.state = .hold
      · rw [request_hold stands holder hold, request_hold stands' holder hold, grantHold_forGroup own]
        exact madeAlike_holder own single rfl rfl waiting rfl
      · rw [request_idle stands holder hold, request_idle stands' holder hold, grantIdle_forGroup own]
        obtain ⟨made, queue⟩ := grantIdle_holder f t
        exact madeAlike_holder own single rfl made (queue ▸ waiting) rfl
    | some h =>
      by_cases below : t.priority ≤ h.priority
      · have below' : (t.forGroup p g).priority ≤ h.priority := priority ▸ below
        by_cases room : f.queue.length < 2
        · refine .inl ?_
          rw [request_waits stands holder below room, request_waits stands' holder below' room,
            queuePosition_forGroup own waiting]
          refine ⟨rfl, .inr rfl, ⟨t, List.mem_append_right _ (mem_enqueue.mpr (.inl rfl)), own, single⟩, ?_⟩
          simp only [Foldback.forGroup, map_forGroup_enqueue own waiting, holder, Option.map_some,
            forGroup_other (fresh h (by simp [records_of_holder holder]))]
        · have full := Nat.not_lt.mp room
          rw [request_full stands holder below full, request_full stands' holder below' full]
          exact .inr ⟨rfl, by simp⟩
      · have above := BitVec.not_le.mp below
        have above' : h.priority < (t.forGroup p g).priority := priority ▸ above
        refine .inl ?_
        rw [request_above stands holder above, request_above stands' holder above', preempt_forGroup own]
        exact madeAlike_holder own single rfl (preempt_holder f e h t) (preempt_waiting (e := e) fresh holder) rfl

end Record

section State
variable {s : State} {p : Port} {g : Group} {e : Earpiece}

/-- A group request's reply is the members' numbers and outcomes in the order visited (R113, R114). -/
theorem foldl_visit (act : State → Earpiece → State × Answer) (l : List Earpiece) (s : State) (bytes : List Byte) :
    l.foldl (fun (r : State × List Byte) (e : Earpiece) =>
        ((act r.1 e).1, r.2 ++ [byte e.val, byte (act r.1 e).2.outcome.code])) (s, bytes) =
      ((visit act l s).1, bytes ++ (visit act l s).2) := by
  induction l generalizing s bytes with
  | nil => simp [visit]
  | cons e l ih => simp [visit, ih]

theorem visitAll_eq (act : State → Earpiece → State × Answer) (l : List Earpiece) (s : State) :
    visitAll act l s = ((l.foldl (fun (r : State × List Byte) (e : Earpiece) =>
        ((act r.1 e).1, r.2 ++ [byte e.val, byte (act r.1 e).2.outcome.code])) (s, [byte l.length])).1,
      okAnswer (l.foldl (fun (r : State × List Byte) (e : Earpiece) =>
        ((act r.1 e).1, r.2 ++ [byte e.val, byte (act r.1 e).2.outcome.code])) (s, [byte l.length])).2) := by
  rw [foldl_visit]
  rfl

theorem setTalk_fb (s : State) (e : Earpiece) (x : TalkStep) : (s.setTalk e x).fb e = x.1 := by
  rw [State.setTalk, postAll_fb, fb_putFb_same]

theorem setTalk_putFb (s : State) (e : Earpiece) (x : TalkStep) (f : Foldback) :
    (s.setTalk e x).putFb e f = s.setTalk e (f, x.2) := by
  rw [State.setTalk, putFb_postAll, putFb_putFb]
  rfl

/-- A TALK_REQUEST for a group does on an earpiece what the single request does there (R113). -/
theorem talkOn_forGroup (s : State) (p : Port) (e : Earpiece) (x : Talker) (g : Group) :
    (s.talkOn p e x (some g)).2 = (s.talkOn p e x none).2 ∧
    ((s.talkOn p e x none).2.outcome = .ok ∨ (s.talkOn p e x none).2.outcome = .queued →
      (∃ t ∈ ((s.talkOn p e x none).1.fb e).records, t.port = p ∧ t.origin = none) ∧
      (s.talkOn p e x (some g)).1 = (s.talkOn p e x none).1.putFb e (((s.talkOn p e x none).1.fb e).forGroup p g)) ∧
    (¬ ((s.talkOn p e x none).2.outcome = .ok ∨ (s.talkOn p e x none).2.outcome = .queued) →
      (s.talkOn p e x none).1 = s ∧ (s.talkOn p e x (some g)).1 = s) := by
  cases check : s.access.checkWrite p (earDest e) with
  | error a =>
    have refused : ¬ (a.outcome = .ok ∨ a.outcome = .queued) := by
      rcases checkWrite_error check with rfl | rfl <;> simp [denied]
    rw [talkOn_error check, talkOn_error check]
    exact ⟨rfl, fun made => absurd made refused, fun _ => ⟨rfl, rfl⟩⟩
  | ok w =>
    have record : s.newTalk p w x (some g) = (s.newTalk p w x none).forGroup p g :=
      (forGroup_own (t := s.newTalk p w x none) rfl).symm
    rcases request_forGroup (p := p) (g := g) (t := s.newTalk p w x none) rfl rfl (s.fb e) e with
      ⟨answer, made, joined, step⟩ | ⟨answer, refused⟩
    · rw [← record] at answer step
      rw [talkOn_ok check, talkOn_ok check, answer, if_pos made, if_pos made, setTalk_fb, setTalk_putFb, step]
      exact ⟨rfl, fun _ => ⟨joined, rfl⟩, fun refused => absurd made refused⟩
    · rw [← record] at answer
      rw [talkOn_ok check, talkOn_ok check, answer, if_neg refused, if_neg refused]
      exact ⟨rfl, fun made => absurd made refused, fun _ => ⟨rfl, rfl⟩⟩

end State

theorem memberCount_eq (set : BitVec 16) : memberCount set = (List.finRange 16).countP fun e : Fin 16 => set.getLsbD e.val := by
  rw [List.countP_eq_length_filter]
  rfl

/-- Settles O42: SET_GROUP, the visits, and the single requests they repeat. -/
theorem groupsVisitTheirMembers : Obligations.GroupsVisitTheirMembers := by
  intro s p tag g group onGroup u members visited
  refine ⟨fun set spelled holds => ?_, fun talker x spelled onTalker => ?_, fun spelled => ?_,
    fun earpiece talker e x spelled onEar onTalker => takeRequest_does spelled (talkRequest_on onEar onTalker),
    fun earpiece e spelled onEar => takeRequest_does spelled (talkRelease_on onEar), ?_⟩
  · have sets : setGroup group set u = ({ u with foldback := { u.foldback with groups := put u.foldback.groups g set } },
        okAnswer [byte ((List.finRange 16).countP fun e : Fin 16 => set.getLsbD e.val)]) := by
      simp only [setGroup, inClass_eq onGroup, memberCount_eq]
    exact takeRequest_does spelled (withAuthority_of_holder holds sets)
  · have talks : talkGroup p group talker u = visitAll (fun s e => s.talkOn p e x (some g)) members u := by
      simp only [talkGroup, inClass_eq onGroup, inClass_eq onTalker]
      rfl
    exact takeRequest_does spelled (talks.trans (visitAll_eq _ _ _))
  · have releases : releaseGroup p group u = visitAll (fun s e => s.releaseOn p e) members u := by
      simp only [releaseGroup, inClass_eq onGroup]
      rfl
    exact takeRequest_does spelled (releases.trans (visitAll_eq _ _ _))
  · intro r e x single f forGroup
    obtain ⟨answer, made, refused⟩ := talkOn_forGroup r p e x g
    exact ⟨answer, made, fun notOk notQueued => refused (not_or.mpr ⟨notOk, notQueued⟩)⟩

end Sys2Proof.Machine

/-! SUPPORT. The identification unit (06): probes, plug detect and profiles, and O43, O44, O45 and O46. -/

namespace Sys2Proof.Machine

/-! ### Probes (R119, R120, R121) -/

theorem identify_on {s : State} {p : Port} {earpiece : Byte} {e : Earpiece} {w : Window} (onEar : earpiece.toNat = e.val)
    (write : s.access.checkWrite p (earDest e) = .ok w) : identify p earpiece s =
      if (s.acc e).state = .probing then (s, { outcome := .busy }) else (s.startProbe e, { outcome := .accepted }) := by
  simp only [identify, inClass_eq onEar, write]

/-- Settles O43: IDENTIFY and the debounce expiry start the same probe. -/
theorem probesStart : Obligations.ProbesStart := by
  intro s e started
  refine ⟨fun p tag earpiece w spelled onEar governs writable => ?_, fun ran watched => ?_⟩
  · have identifies := identify_on (s := s.endTransaction p) onEar (checkWrite_ok.mpr ⟨governs, writable⟩)
    exact ⟨fun probing => takeRequest_does spelled (identifies.trans (if_pos probing)),
      fun still => takeRequest_does spelled (identifies.trans (if_neg still))⟩
  · exact if_pos ⟨due_iff.mpr ran, watched⟩

/-- The record at a probe's completion, its plug detect already watching (R121, R123). -/
theorem complete_eq (a : Accessory) (profiles : Vector Profile 8) (r : Contacts) : a.complete profiles r =
    { a with id := assembleId (a.readings ++ [r]), rest := r, readings := [], settle := none,
             state := if assembleId (a.readings ++ [r]) = 0xFFF then .absent else .present,
             profile := if assembleId (a.readings ++ [r]) = 0xFFF then 0 else lookup profiles (assembleId (a.readings ++ [r])),
             debounce := if a.sense.get 3 = r then none else some 960 } := by
  unfold Accessory.complete Accessory.watch
  by_cases empty : assembleId (a.readings ++ [r]) = 0xFFF
  · simp only [empty, if_true, reduceCtorEq, or_true, Config.debounceFrames]
  · simp only [empty, if_false, reduceCtorEq, or_false, if_true, Config.debounceFrames]

theorem digit_four (r0 r1 r2 r : Contacts) (k : Nat) : digit [r0, r1, r2, r] k =
    8 * (r0.getLsbD k).toNat + 4 * (r1.getLsbD k).toNat + 2 * (r2.getLsbD k).toNat + (r.getLsbD k).toNat := by
  simp only [digit, List.foldl_cons, List.foldl_nil]
  omega

theorem exec_settleTimerExpiry {s : State} {e : Earpiece} (probing : (s.acc e).state = .probing)
    (ran : (s.acc e).settle = some 0) : exec (.settleTimerExpiry e) s =
      if (s.acc e).readings.length < 3 then .next (s.putAcc e (s.acc e).stepProbe) else .next (s.completeProbe e) :=
  if_pos ⟨probing, due_iff.mpr ran⟩

/-- Settles O44: three steps, and the completion. -/
theorem probesStepAndComplete : Obligations.ProbesStepAndComplete := by
  intro s e b probing ran bias a r
  have reading : (s.acc e).reading = r := by simp only [Accessory.reading, bias]; rfl
  refine ⟨fun b' more next => ?_, fun r0 r1 r2 full => ?_⟩
  · have drives : Fin.ofNat 4 ((s.acc e).readings.length + 1) = b' := Fin.ext (by
      rw [Fin.val_ofNat, ← next, Nat.mod_eq_of_lt b'.isLt])
    rw [exec_settleTimerExpiry probing ran, if_pos more, Accessory.stepProbe, reading, drives]
    rfl
  · intro digit' id done v v'
    have assembled : assembleId ((s.acc e).readings ++ [r]) = id := by
      rw [show (s.acc e).readings = [r0, r1, r2] from full]
      simp only [assembleId, List.cons_append, List.nil_append, digit_four]
      rfl
    have completed : (s.acc e).complete s.ident.profiles (s.acc e).reading = done := by
      rw [reading, complete_eq, assembled]
    have stops : ¬ (s.acc e).readings.length < 3 := by simp [show (s.acc e).readings = [r0, r1, r2] from full]
    have opens : (if done.state = .present then v.putGate e ((s.gate e).aim Config.unity Config.shortRamp) else v) = v' := by
      have state : done.state = if id = 0xFFF then .absent else .present := rfl
      by_cases empty : id = 0xFFF
      · rw [state, if_pos empty, if_neg (by decide)]
        exact (if_pos empty).symm
      · rw [state, if_neg empty, if_pos rfl]
        exact (if_neg empty).symm
    rw [exec_settleTimerExpiry probing ran, if_neg stops, State.completeProbe, completed]
    exact congrArg (fun u => Host.Outcome.next (State.postAll u _)) opens

/-! ### Plug detect (R123) -/

section Watch
variable {a : Accessory} (watching : a.state = .present ∨ a.state = .absent)
include watching

theorem watch_at_rest (rest : a.sense.get 3 = a.rest) : a.watch = { a with debounce := none } := by
  rw [Accessory.watch, if_pos watching, if_pos rest]

theorem watch_starts (moved : a.sense.get 3 ≠ a.rest) (stopped : a.debounce = none) :
    a.watch = { a with debounce := some 960 } := by
  simp [Accessory.watch, watching, moved, stopped, Config.debounceFrames]

theorem watch_runs (moved : a.sense.get 3 ≠ a.rest) (running : a.debounce ≠ none) : a.watch = a := by
  obtain ⟨n, timer⟩ := Option.ne_none_iff_exists'.mp running
  simp only [Accessory.watch, watching, moved, timer, if_true, if_false]
  rw [← timer]

end Watch

/-- Settles O45: by the record's state and the reading under B3. -/
theorem plugDetectWatchesTheContacts : Obligations.PlugDetectWatchesTheContacts := by
  intro s e b0 b1 b2 b3 a
  have changes : ∀ {a'}, a.watch = a' → exec (.contactReadingChange e b0 b1 b2 b3) s = .next (s.putAcc e a') :=
    fun watched => congrArg (fun a' => Host.Outcome.next (s.putAcc e a')) watched
  refine ⟨fun blind => changes (watch_of_other ?_), fun watching => ⟨fun rest => changes (watch_at_rest watching rest),
    fun moved stopped => changes (watch_starts watching moved stopped),
    fun moved running => changes (watch_runs watching moved running)⟩⟩
  show ¬ ((s.acc e).state = .present ∨ (s.acc e).state = .absent)
  rcases blind with probing | unknown
  · simp [probing]
  · simp [unknown]

/-! ### Profiles (R127, R128) -/

/-- A profile that the lookup of an ID may choose (R127). -/
def hits (t : Vector Profile 8) (id : BitVec 12) (i : ProfileIx) : Bool :=
  decide (i ≠ 0) && (t.get i).valid && decide ((t.get i).matchId = id)

theorem hits_iff {t : Vector Profile 8} {id : BitVec 12} {i : ProfileIx} :
    hits t id i = true ↔ i ≠ 0 ∧ (t.get i).valid = true ∧ (t.get i).matchId = id := by
  simp [hits, and_assoc]

/-- The lookup takes the lowest profile that it may choose (R127). -/
theorem lookup_lowest {t : Vector Profile 8} {id : BitVec 12} (some_hit : ∃ i, hits t id i = true) :
    hits t id (lookup t id) = true ∧ ∀ j, j < lookup t id → ¬ hits t id j = true := by
  cases found : (List.finRange 8).find? (hits t id) with
  | none =>
    obtain ⟨i, hit⟩ := some_hit
    exact absurd hit (List.find?_eq_none.mp found i (List.mem_finRange i))
  | some i =>
    have chosen : lookup t id = i := congrArg (·.getD 0) found
    obtain ⟨hit, n, lt, here, first⟩ := List.find?_eq_some_iff_getElem.mp found
    rw [chosen]
    refine ⟨hit, fun j below => ?_⟩
    have place : n = i.val := by simpa using congrArg Fin.val here
    have earlier := first j.val (place ▸ below)
    simpa using earlier

theorem lookup_zero {t : Vector Profile 8} {id : BitVec 12} (no_hit : ∀ i, ¬ hits t id i = true) : lookup t id = 0 :=
  congrArg (·.getD 0) (List.find?_eq_none.mpr fun i _ => no_hit i)

theorem storeProfile_get_ne {t : Vector Profile 8} {i j : ProfileIx} (other : j ≠ i) (valid : Bool) (matchId : BitVec 12)
    (ceiling : Level) (ear : EarMode) : (storeProfile t i valid matchId ceiling ear).get j = t.get j := by
  unfold storeProfile
  split <;> exact get_put_ne t other _

theorem storeProfile_get_same (t : Vector Profile 8) (i : ProfileIx) (valid : Bool) (matchId : BitVec 12)
    (ceiling : Level) (ear : EarMode) : (storeProfile t i valid matchId ceiling ear).get i =
      if i = 0 then { t.get i with ceiling := ceiling, ear := ear }
      else { valid := valid, matchId := matchId, ceiling := ceiling, ear := ear } := by
  unfold storeProfile
  split <;> rw [get_put_same]

theorem accessoryNotice_lookedUp (e : Earpiece) (a : Accessory) (t : Vector Profile 8) :
    accessoryNotice e (a.lookedUp t) =
      { kind := .accessory, subject := byte e.val, d0 := byte (a.id.toNat / 256), d1 := byte a.id.toNat, d2 := a.state.code,
        d3 := byte (a.lookedUp t).profile.val } := by
  unfold Accessory.lookedUp
  split <;> rfl

theorem setProfile_stores {s : State} {index valid ceiling ear : Byte} {matchId : BitVec 16} {i : ProfileIx} {m : EarMode} {c : Level}
    (onIndex : index.toNat = i.val) (onEar : ear = m.code) (onCeiling : c.val = min 127 ceiling.toNat) {t : Vector Profile 8}
    (table : storeProfile s.ident.profiles i (isOn valid) (maskTwelve matchId) c m = t) :
    setProfile index valid matchId ceiling ear s =
      ({ s with ident := { profiles := t, accs := remap s.ident.accs fun _ a => a.lookedUp t } }.postAll
          ((s.ident.moved t).flatMap fun e => s.access.toCovering (earDest e) (accessoryNotice e ((s.acc e).lookedUp t))),
        okAnswer [byte (s.ident.moved t).length]) := by
  subst table onEar
  simp only [setProfile, inClass_eq onIndex, readEar_code, clampLevel_eq onCeiling, get_remap]
  rfl

/-- Settles O46: the lookup, the table stored, and every PRESENT earpiece looked up in it. -/
theorem setProfileLooksUpAfresh : Obligations.SetProfileLooksUpAfresh := by
  refine ⟨?_, ?_⟩
  · intro t id hit
    refine ⟨fun ⟨i, chosen⟩ => ?_, fun no_hit => lookup_zero fun i other => no_hit i (hits_iff.mp other)⟩
    obtain ⟨hit, first⟩ := lookup_lowest ⟨i, hits_iff.mpr chosen⟩
    exact ⟨hits_iff.mp hit, fun j below other => first j below (hits_iff.mpr other)⟩
  · intro s p tag index valid ceiling ear matchId i m c spelled holds onIndex onEar onCeiling
    let t := storeProfile s.ident.profiles i (isOn valid) (maskTwelve matchId) c m
    have stored := storeProfile_get_same s.ident.profiles i (isOn valid) (maskTwelve matchId) c m
    have stores := setProfile_stores (s := s.endTransaction p) (t := t) onIndex onEar onCeiling rfl
    have does := takeRequest_does spelled (withAuthority_of_holder holds stores)
    have looked : ∀ e, (remap s.ident.accs fun _ a => a.lookedUp t).get e = (s.acc e).lookedUp t := fun e => get_remap _ _ _
    refine ⟨t, remap s.ident.accs fun _ a => a.lookedUp t, fun j other => storeProfile_get_ne other _ _ _ _, ?_, ?_,
      fun other => ?_, fun zero => ?_, fun e on => ?_, fun e off => ?_, ?_⟩
    · rw [stored]; split <;> rfl
    · rw [stored]; split <;> rfl
    · rw [stored, if_neg other]; exact ⟨rfl, by simp [maskTwelve]⟩
    · rw [stored, if_pos zero, zero]; exact ⟨rfl, rfl⟩
    · rw [looked]; exact if_pos on
    · rw [looked]; exact if_neg off
    · simp only [looked]
      simp only [accessoryNotice_lookedUp] at does
      exact does

end Sys2Proof.Machine

/-! SUPPORT. The field lines (07): changes of state and their reports, the requests and the events that bring them about, the plan
and the depth budget: O47, O48, O49 and O51. -/

namespace Sys2Proof.Machine

/-! ### A change of a line's state (R153, R154) -/

/-- The state once a line's record is stored with its cause and FIELD_STATE has been raised (R153). -/
def State.lineNoticed (s : State) (k : Line) (l : LineRec) (cause : LineCause) : State :=
  (s.putLine k { l with lastCause := cause }).postAll (s.access.toCovering (lineDest k) (fieldStateNotice k l.state cause))

section Change
variable {s : State} {k : Line} {l : LineRec} {cause : LineCause}

theorem changeLine_reported (s : State) (k : Line) (l : LineRec) (cause : LineCause) :
    s.changeLine k l cause = (s.lineNoticed k l cause).reportTracked k (s.line k).state l.state := rfl

theorem lineNoticed_reference (s : State) (k : Line) (l : LineRec) (cause : LineCause) :
    (s.lineNoticed k l cause).reference = s.reference := by
  rw [State.lineNoticed, postAll_reference, putLine_reference]

theorem changeLine_silent (quiet : s.reference.tracked ≠ some k ∨ ((s.line k).state = .locked ↔ l.state = .locked)) :
    s.changeLine k l cause = s.lineNoticed k l cause := by
  rw [changeLine_reported, State.reportTracked, lineNoticed_reference]
  split
  · next tracked =>
    have same := quiet.resolve_left (not_not.mpr tracked)
    rw [if_neg (by tauto), if_neg (by tauto)]
  · rfl

theorem changeLine_enters (tracked : s.reference.tracked = some k) (before : (s.line k).state ≠ .locked)
    (after : l.state = .locked) :
    s.changeLine k l cause = { s.lineNoticed k l cause with reference := s.reference.trackedEnters } := by
  rw [changeLine_reported, State.reportTracked, lineNoticed_reference, if_pos tracked, if_pos ⟨before, after⟩]

theorem changeLine_leaves (tracked : s.reference.tracked = some k) (before : (s.line k).state = .locked)
    (after : l.state ≠ .locked) :
    s.changeLine k l cause = (s.lineNoticed k l cause).setReference (s.reference.trackedLeaves k) := by
  rw [changeLine_reported, State.reportTracked, lineNoticed_reference, if_pos tracked, if_neg fun h => after h.2,
    if_pos ⟨before, after⟩]

end Change

theorem lost_of_active {r : RefUnit} {x : RefSource} (active : r.active = x) : r.lost x =
    RefUnit.reporting { r with active := .crystal, state := if r.state = .steady then .holdover else r.state } .lost :=
  if_pos active

theorem lost_of_other {r : RefUnit} {x : RefSource} (other : r.active ≠ x) : r.lost x = (r, []) := if_neg other

/-- Settles O47: by whether the line is tracked and how it stands to LOCKED. -/
theorem lineChangesAreReported : Obligations.LineChangesAreReported := by
  intro s k l cause v r left
  refine ⟨changeLine_silent, changeLine_enters, fun tracked before after => ?_⟩
  have leaves := changeLine_leaves (cause := cause) tracked before after
  refine ⟨fun other => leaves.trans ?_, fun active => leaves.trans ?_⟩
  · have kept : left.lost (.field k) = (left, []) := lost_of_other other
    exact congrArg (s.lineNoticed k l cause).setReference kept
  · exact congrArg (s.lineNoticed k l cause).setReference (lost_of_active (r := left) active)

/-! ### FIELD_START, FIELD_STOP and FIELD_PARK (R135, R136, R137) -/

theorem acquireFrom_eq (l : LineRec) : l.acquireFrom = { l with state := .acquiring, timer := some (48000 * l.acquire) } := by
  rw [LineRec.acquireFrom, Config.framesPerSecond, Nat.mul_comm]

theorem down_iff (l : LineRec) : l.down = true ↔ l.state = .idle ∨ l.state = .parked := by simp [LineRec.down]

theorem receiving_iff (l : LineRec) : l.receiving = true ↔ l.state = .centering ∨ l.state = .locked := by
  simp [LineRec.receiving]

theorem isActiveLine_iff (s : State) (k : Line) : s.isActiveLine k = true ↔ s.reference.active = .field k := by
  simp [State.isActiveLine]

section Requests
variable {s : State} {p : Port} {line : Byte} {k : Line} {w : Window} (onLine : line.toNat = k.val)
  (write : s.access.checkWrite p (lineDest k) = .ok w)
include onLine write

theorem fieldStart_on : fieldStart p line s =
    if (s.line k).down then
      (s.changeLine k { (s.line k).flush with quietSlips := 0, forcedSlips := 0 : LineRec }.acquireFrom .start,
        { outcome := .accepted })
    else (s, lineStateAnswer (s.line k)) := by
  simp only [fieldStart, inClass_eq onLine, write]

theorem fieldStop_on : fieldStop p line s =
    if s.isActiveLine k then (s, referenceAnswer)
    else if (s.line k).state = .idle then (s, okAnswer [])
    else (s.changeLine k ((s.line k).takenDown .idle) .stop, okAnswer []) := by
  simp only [fieldStop, inClass_eq onLine, write]

theorem fieldPark_on : fieldPark p line s =
    if s.isActiveLine k then (s, referenceAnswer)
    else if (s.line k).state = .idle then (s, lineStateAnswer (s.line k))
    else if (s.line k).state = .parked then (s, okAnswer [])
    else (s.changeLine k ((s.line k).takenDown .parked) .park, okAnswer []) := by
  simp only [fieldPark, inClass_eq onLine, write]

end Requests

/-- Settles O48: each request through its checks. -/
theorem fieldLinesStartStopAndPark : Obligations.FieldLinesStartStopAndPark := by
  intro s p tag line k w onLine governs writable u l emptied
  have write : u.access.checkWrite p (lineDest k) = .ok w := checkWrite_ok.mpr ⟨governs, writable⟩
  have starts := fieldStart_on onLine write
  have stops := fieldStop_on onLine write
  have parks := fieldPark_on onLine write
  have held : s.reference.active = .field k → u.isActiveLine k = true := (isActiveLine_iff u k).mpr
  have loose : s.reference.active ≠ .field k → ¬ u.isActiveLine k = true := mt (isActiveLine_iff u k).mp
  refine ⟨fun spelled => ⟨fun down => ?_, fun idle parked => ?_⟩, fun spelled => ⟨fun active => ?_, fun other idle => ?_,
    fun other idle => ?_⟩, fun spelled => ⟨fun active => ?_, fun other idle => ?_, fun other parked => ?_,
    fun other idle parked => ?_⟩⟩
  · rw [if_pos ((down_iff (u.line k)).mpr down), acquireFrom_eq] at starts
    exact takeRequest_does spelled starts
  · have up : ¬ (u.line k).down = true := fun down => ((down_iff _).mp down).elim idle parked
    exact takeRequest_does spelled (starts.trans (if_neg up))
  · exact takeRequest_does spelled (stops.trans (if_pos (held active)))
  · exact takeRequest_does spelled (stops.trans ((if_neg (loose other)).trans (if_pos idle)))
  · exact takeRequest_does spelled (stops.trans ((if_neg (loose other)).trans (if_neg idle)))
  · exact takeRequest_does spelled (parks.trans (if_pos (held active)))
  · refine takeRequest_does spelled (parks.trans ((if_neg (loose other)).trans ((if_pos idle).trans ?_)))
    rw [lineStateAnswer, show (u.line k).state = .idle from idle]
    rfl
  · have idle : (u.line k).state ≠ .idle := fun idle => by cases idle.symm.trans parked
    exact takeRequest_does spelled (parks.trans ((if_neg (loose other)).trans ((if_neg idle).trans (if_pos parked))))
  · exact takeRequest_does spelled (parks.trans ((if_neg (loose other)).trans ((if_neg idle).trans (if_neg parked))))

/-! ### The events of a line (R139 to R144) -/

/-- Settles O49: each event moves the line from its states alone. -/
theorem fieldLineEventsMoveTheLine : Obligations.FieldLineEventsMoveTheLine := by
  intro s k l emptied acquiring lost called
  have acquires : l.acquireFrom = acquiring := acquireFrom_eq l
  refine ⟨fun on => if_pos on, fun off => if_neg off, fun up => ⟨if_pos ((receiving_iff _).mpr up), fun ran =>
    if_pos ⟨(receiving_iff _).mpr up, due_iff.mpr ran⟩⟩, fun centering locked => ?_,
    fun on ran => if_pos ⟨on, due_iff.mpr ran⟩, fun off => if_neg fun on => off on.1, fun on ran => ?_,
    fun off => if_neg fun on => off on.1, fun running => ⟨if_neg fun on => running (due_iff.mp on.2),
      if_neg fun on => running (due_iff.mp on.2), if_neg fun on => running (due_iff.mp on.2)⟩, fun on off => ?_,
    fun on auto => ?_, fun off => if_neg off⟩
  · have down : ¬ l.receiving = true := fun up => ((receiving_iff l).mp up).elim centering locked
    exact ⟨if_neg down, if_neg fun on => down on.1⟩
  · rw [← acquires]
    exact if_pos ⟨on, due_iff.mpr ran⟩
  · have sleeps : ¬ (s.line k).autoWake = true := by rw [show (s.line k).autoWake = false from off]; decide
    exact (if_pos on).trans (congrArg Host.Outcome.next (if_neg sleeps))
  · rw [← acquires]
    exact (if_pos on).trans (congrArg Host.Outcome.next (if_pos auto))

/-! ### The plan and the depth budget (R151) -/

theorem depthOf_mask (b : Byte) : depthOf (maskTwo b) = 256 * 2 ^ (b.toNat % 4) := by rw [depthOf, maskTwo_toNat]

/-- The eight depths with another one for line `k`. -/
theorem otherDepths_add (f : FieldUnit) (k : Line) (d : Nat) :
    ((List.finRange 8).map fun j => if j = k then d else (f.lines.get j).size).sum = f.otherDepths k + d := by
  have away : ∀ j, j ≠ k → (if j = k then d else (f.lines.get j).size) = if j = k then 0 else (f.lines.get j).size :=
    fun j other => by rw [if_neg other, if_neg other]
  simpa [FieldUnit.otherDepths] using sum_finRange_of_ne k away

theorem setFieldPlan_on {s : State} {line depth quiet autoWake acquire : Byte} {k : Line} {total : Nat}
    (onLine : line.toNat = k.val) (sum : s.field.otherDepths k + depthOf (maskTwo depth) = total) :
    setFieldPlan line depth quiet autoWake acquire s =
      if ¬ (s.line k).down then (s, lineStateAnswer (s.line k))
      else if Config.depthBudget < total then (s, { outcome := .full, results := [fullDepth] })
      else (s.putLine k { s.line k with depth := maskTwo depth, quiet := clampLevel quiet, autoWake := isOn autoWake,
                                        acquire := clampAcquire acquire },
            okAnswer (bytes2 (Config.depthBudget - total))) := by
  subst sum
  simp only [setFieldPlan, inClass_eq onLine]

/-- Settles O51: the line down, then the budget. -/
theorem fieldPlansKeepTheDepthBudget : Obligations.FieldPlansKeepTheDepthBudget := by
  intro s p tag line depth quiet autoWake acquire k spelled holds onLine u l total answered
  have sum : u.field.otherDepths k + depthOf (maskTwo depth) = total := by
    rw [← otherDepths_add, depthOf_mask]
    rfl
  have plans := setFieldPlan_on (s := u) (quiet := quiet) (autoWake := autoWake) (acquire := acquire) onLine sum
  have does : ∀ {r}, setFieldPlan line depth quiet autoWake acquire u = r →
      exec (.setFieldPlan p line depth quiet autoWake acquire) s = .next (r.1.reply p tag r.2) :=
    fun acts => takeRequest_does spelled (withAuthority_of_holder holds acts)
  refine ⟨fun idle parked => ?_, fun down => ?_⟩
  · have up : ¬ (u.line k).down = true := fun down => ((down_iff _).mp down).elim idle parked
    exact does (plans.trans (if_pos up))
  · have stands := (down_iff (u.line k)).mpr down
    refine ⟨fun exceeds => ?_, fun fits => ?_⟩
    · exact does (plans.trans ((if_neg (not_not.mpr stands)).trans (if_pos exceeds)))
    · have stored := does (plans.trans ((if_neg (not_not.mpr stands)).trans (if_neg (Nat.not_lt.mpr fits))))
      exact ⟨_, stored, maskTwo_toNat depth, clampLevel_val quiet, rfl, rfl, rfl⟩

end Sys2Proof.Machine

/-! SUPPORT. The elastic buffer of a field line: writes, reads and slips, and O50. -/

namespace Sys2Proof.Machine

section Record
variable {l : LineRec} {x : Sample}

theorem slipUnit_eq (l : LineRec) : l.slipUnit = 8 * 2 ^ l.depth.toNat := by
  have size : l.size = 32 * (8 * 2 ^ l.depth.toNat) := by rw [LineRec.size, depthOf]; ring
  rw [LineRec.slipUnit, size, Nat.mul_div_cancel_left _ (by decide)]

theorem lastOf_append {α : Type} (a b : List α) : lastOf b.length (a ++ b) = b := by simp [lastOf]

/-! ### Slips (R147, R148) -/

theorem forceSlip_of_band (low : 8 * l.slipUnit < l.fill) (high : l.fill < 24 * l.slipUnit) : l.forceSlip = l := by
  have free : ¬ l.forcedOwed = true := by rw [forcedOwed_iff]; omega
  rw [LineRec.forceSlip, if_neg free]

/-- At 3D/4 the U oldest samples are dropped (R147). -/
theorem forceSlip_of_full (full : l.fill = 24 * l.slipUnit) : l.forceSlip =
    { l with buffer := l.buffer.drop l.slipUnit, quietRun := 0, forcedSlips := countUp l.forcedSlips } := by
  have unit := slipUnit_pos l
  have owed : l.forcedOwed = true := by rw [forcedOwed_iff]; omega
  rw [LineRec.forceSlip, if_pos owed, slip_of_pos ((owed_pos l).mpr (by omega))]

/-- A slip the other way puts the newest U samples of the replay store back at the head (R147, R148). -/
theorem slip_back {older newest : List Sample} (down : ¬ 0 < l.owed) (replay : l.replay = older ++ newest)
    (length : newest.length = l.slipUnit) :
    l.slip = { l with buffer := newest ++ l.buffer, replay := older, quietRun := 0 } := by
  rw [slip_of_not_pos down, replay, ← length, lastOf_append, List.length_append, Nat.add_sub_cancel,
    List.take_left]

/-- At D/4 they are put back at the head (R147). -/
theorem readSlip_of_low {older newest : List Sample} (low : l.fill = 8 * l.slipUnit) (replay : l.replay = older ++ newest)
    (length : newest.length = l.slipUnit) : l.readSlip =
      { l with buffer := newest ++ l.buffer, replay := older, quietRun := 0, forcedSlips := countUp l.forcedSlips } := by
  have unit := slipUnit_pos l
  have owed : l.forcedOwed = true := by rw [forcedOwed_iff]; omega
  have down : ¬ 0 < l.owed := by rw [owed_pos]; omega
  rw [LineRec.readSlip, if_pos owed, LineRec.forceSlip, if_pos owed, slip_back down replay length]

section Band
variable (low : 8 * l.slipUnit < l.fill) (high : l.fill < 24 * l.slipUnit)
include low high

theorem readSlip_of_band : l.readSlip =
    if l.quietRun = 480 ∧ l.owed ≠ 0 then { l.slip with quietSlips := countUp l.quietSlips } else l := by
  have free : ¬ l.forcedOwed = true := by rw [forcedOwed_iff]; omega
  have few := (owed_natAbs_le_seven l).mpr ⟨low, high⟩
  have some_owed : 1 ≤ l.owed.natAbs ↔ l.owed ≠ 0 := by omega
  have quiet : l.quietOwed = true ↔ l.quietRun = Config.quietRunFull ∧ l.owed ≠ 0 := by
    simp only [LineRec.quietOwed, Bool.and_eq_true, decide_eq_true_eq, some_owed, few, and_true]
  simp only [LineRec.readSlip, if_neg free, quiet]
  rfl

theorem readSlip_kept (still : l.quietRun ≠ 480 ∨ l.owed = 0) : l.readSlip = l := by
  rw [readSlip_of_band low high, if_neg (by tauto)]

theorem readSlip_drops (quiet : l.quietRun = 480) (above : 0 < l.owed) : l.readSlip =
    { l with buffer := l.buffer.drop l.slipUnit, quietRun := 0, quietSlips := countUp l.quietSlips } := by
  rw [readSlip_of_band low high, if_pos ⟨quiet, by omega⟩, slip_of_pos above]

theorem readSlip_restores {older newest : List Sample} (quiet : l.quietRun = 480) (below : l.owed < 0)
    (replay : l.replay = older ++ newest) (length : newest.length = l.slipUnit) : l.readSlip =
      { l with buffer := newest ++ l.buffer, replay := older, quietRun := 0, quietSlips := countUp l.quietSlips } := by
  rw [readSlip_of_band low high, if_pos ⟨quiet, by omega⟩, slip_back (by omega) replay length]

end Band

theorem deliver_eq (l : LineRec) (y : Sample) : l.deliver y =
    { l with delivered := some y, replay := (l.replay ++ [y]).drop (l.replay.length + 1 - 64),
             quietRun := if (y.toInt.natAbs : Int) < scale 8388607 (gain l.quiet) then min (l.quietRun + 1) 480 else 0 } := by
  simp only [LineRec.deliver, lastOf, List.length_append, List.length_singleton, Config.replayCapacity, LineRec.threshold,
    sampleMax, Config.quietRunFull]
  rfl

theorem passThrough_eq {y : Sample} {rest : List Sample} (head : l.buffer ++ [x] = y :: rest) :
    l.passThrough x = ({ l.write x with buffer := rest } : LineRec).deliver y := by
  have written : (l.write x).buffer = y :: rest := head
  simp only [LineRec.passThrough, written]

end Record

/-! ### The commands -/

section Commands
variable {s : State} {k : Line} {x : Sample} (other : s.reference.active ≠ .field k)
include other

theorem exec_fieldWrite_centering (centering : (s.line k).state = .centering) : exec (.fieldWrite k x) s =
    if ((s.line k).write x).fill = ((s.line k).write x).size / 2 then
      .next (s.changeLine k { (s.line k).write x with state := .locked, quietRun := 0, replay := [] } .centred)
    else .next (s.putLine k ((s.line k).write x)) := by
  have loose := mt (isActiveLine_iff s k).mp other
  simp only [exec, execFieldWrite, if_neg loose, centering]

theorem exec_fieldWrite_locked (locked : (s.line k).state = .locked) :
    exec (.fieldWrite k x) s = .next (s.putLine k ((s.line k).write x).forceSlip) := by
  have loose := mt (isActiveLine_iff s k).mp other
  simp only [exec, execFieldWrite, if_neg loose, locked]

theorem exec_fieldRead_locked {y : Sample} {rest : List Sample} (locked : (s.line k).state = .locked)
    (head : (s.line k).buffer = y :: rest) : exec (.fieldRead k) s =
      .next (s.putLine k (({ s.line k with buffer := rest } : LineRec).deliver y).readSlip) := by
  have loose := mt (isActiveLine_iff s k).mp other
  simp only [exec, execFieldRead, if_neg loose, locked, head]

theorem exec_fieldWrite_ignored (centering : (s.line k).state ≠ .centering) (locked : (s.line k).state ≠ .locked) :
    exec (.fieldWrite k x) s = .next s := by
  have loose := mt (isActiveLine_iff s k).mp other
  simp only [exec, execFieldWrite, if_neg loose]

theorem exec_fieldRead_ignored (locked : (s.line k).state ≠ .locked) : exec (.fieldRead k) s = .next s := by
  have loose := mt (isActiveLine_iff s k).mp other
  simp only [exec, execFieldRead, if_neg loose]
  split
  · next on _ => exact absurd on locked
  · rfl

end Commands

/-- Settles O50: writes and reads by the line's state and the fill they leave. -/
theorem fieldBufferFollowsWritesAndReads : Obligations.FieldBufferFollowsWritesAndReads := by
  intro s k x l d unit written threshold delivering
  have units : l.slipUnit = unit := slipUnit_eq l
  obtain ⟨-, size⟩ := slipUnit_cases l
  have depth : l.size = d := rfl
  rw [units] at size
  have writes : l.write x = written := rfl
  have fill : (l.write x).fill = l.buffer.length + 1 := by simp [LineRec.fill, LineRec.write]
  have writtenUnits : (l.write x).slipUnit = unit := units
  have reads : ∀ {y rest r} (_ : s.reference.active ≠ .field k) (_ : l.state = .locked) (_ : l.buffer = y :: rest)
      (_ : (delivering { l with buffer := rest } y).readSlip = r), exec (.fieldRead k) s = .next (s.putLine k r) :=
    fun {y rest r} other locked head slips => (exec_fieldRead_locked other locked head).trans
      (congrArg (fun m => Host.Outcome.next (s.putLine k m)) ((congrArg LineRec.readSlip (deliver_eq _ y)).trans slips))
  refine ⟨fun other => ⟨fun centering apart => ?_, fun centering centred => ?_, fun locked low high => ?_, fun locked full => ?_,
    ?_, ?_, fun centering locked => ⟨exec_fieldWrite_ignored other centering locked, exec_fieldRead_ignored other locked⟩⟩,
    fun y rest active locked head => ?_⟩
  · exact (exec_fieldWrite_centering other centering).trans (if_neg (by rw [fill]; exact apart))
  · exact (exec_fieldWrite_centering other centering).trans (if_pos (by rw [fill]; exact centred))
  · have kept : (l.write x).forceSlip = l.write x := forceSlip_of_band (by omega) (by omega)
    exact (exec_fieldWrite_locked other locked).trans (congrArg (fun m => Host.Outcome.next (s.putLine k m)) kept)
  · have dropped := forceSlip_of_full (l := l.write x) (by omega)
    rw [writtenUnits] at dropped
    exact (exec_fieldWrite_locked other locked).trans (congrArg (fun m => Host.Outcome.next (s.putLine k m)) dropped)
  · intro y rest locked head low high r owed
    have readUnits : r.slipUnit = unit := units
    have left : r.fill = rest.length := rfl
    have owes : r.owed = owed := by rw [LineRec.owed, readUnits]; rfl
    have low : 8 * r.slipUnit < r.fill := by omega
    have high : r.fill < 24 * r.slipUnit := by omega
    refine ⟨fun still => reads other locked head (readSlip_kept low high (owes ▸ still)), fun quiet above => ?_,
      fun quiet below _ older newest replay length => ?_⟩
    · have drops := readSlip_drops low high quiet (owes ▸ above)
      rw [readUnits] at drops
      exact reads other locked head drops
    · exact reads other locked head (readSlip_restores low high quiet (owes ▸ below) replay (length.trans readUnits.symm))
  · intro y rest older newest locked head low r replay length
    have readUnits : r.slipUnit = unit := units
    have left : r.fill = rest.length := rfl
    have atLow : r.fill = 8 * r.slipUnit := by omega
    exact reads other locked head (readSlip_of_low atLow replay (length.trans readUnits.symm))
  · have here : s.isActiveLine k ∧ (s.line k).state = .locked := ⟨(isActiveLine_iff s k).mpr active, locked⟩
    have passes : l.passThrough x = delivering { written with buffer := rest } y := (passThrough_eq head).trans (deliver_eq _ y)
    exact (if_pos here).trans (congrArg (fun m => Host.Outcome.next (s.putLine k m)) passes)

end Sys2Proof.Machine

/-! SUPPORT. The reference unit (08): the choice that is judged and the events that move the record, and O52 and O53. -/

namespace Sys2Proof.Machine

/-- The notices of a record for the causes given, each to all four ports (R164). -/
def RefUnit.noticesFor (r : RefUnit) (causes : List Byte) : List Post :=
  causes.flatMap fun c => (List.finRange 4).map fun q =>
    (q, { kind := .reference, subject := 0, d0 := r.active.code, d1 := r.selected.code, d2 := r.state.code, d3 := c })

/-- The record stored and its notices raised. -/
def State.becomes (s : State) (r : RefUnit) (causes : List Byte) : State :=
  { s with reference := r }.postAll (r.noticesFor causes)

theorem setReference_silent (s : State) (r : RefUnit) : s.setReference (r, []) = s.becomes r [] := rfl

theorem setReference_reporting (s : State) (r : RefUnit) (c : RefCause) :
    s.setReference (r.reporting c) = s.becomes r [c.code] := by
  simp [State.setReference, State.becomes, RefUnit.reporting, RefUnit.noticesFor, toAll, RefUnit.notice]

/-! ### SELECT_REFERENCE (R159, R160) -/

section Judge
variable {s : State} {r : RefUnit} {x : RefSource}

/-- The record of a judged choice that becomes or stays the active source. -/
theorem settleOn_active (active : x = r.active) :
    r.settleOn x = { r with selected := x, state := .steady, deadline := none } := by
  rw [active]; rfl

theorem judge_still (active : x = r.active) (still : r.selected = x ∧ r.state = .steady) : r.judge x =
    ((r.settleOn x, []), okAnswer (r.settleOn x).results) := by
  have unmoved : ¬ ((r.settleOn x).selected ≠ r.selected ∨ (r.settleOn x).state ≠ r.state) := by
    rw [not_or, not_not, not_not]
    exact ⟨still.1.symm, still.2.symm⟩
  rw [RefUnit.judge, if_pos active]
  dsimp only
  rw [if_neg unmoved]

theorem judge_moved (active : x = r.active) (moved : ¬ (r.selected = x ∧ r.state = .steady)) : r.judge x =
    ((r.settleOn x).reporting .selected, okAnswer (r.settleOn x).results) := by
  have differs : (r.settleOn x).selected ≠ r.selected ∨ (r.settleOn x).state ≠ r.state := by
    rw [not_and_or] at moved
    exact moved.imp Ne.symm Ne.symm
  rw [RefUnit.judge, if_pos active]
  dsimp only
  rw [if_pos differs]

theorem judge_stable (other : x ≠ r.active) (stable : r.stability x = .stable) : r.judge x =
    ((r.settleOn x).reporting .selected, okAnswer (r.settleOn x).results) := by
  rw [RefUnit.judge, if_neg other, if_pos stable]

theorem judge_waiting (other : x ≠ r.active) (unstable : r.stability x ≠ .stable) : r.judge x =
    (RefUnit.reporting { r with selected := x, state := .switching, deadline := some 96000 } .pending,
      { outcome := .accepted, results := [r.active.code, x.code, RefState.switching.code] }) := by
  rw [RefUnit.judge, if_neg other, if_neg unstable]
  rfl

theorem retuned_active (s : State) (x : RefSource) : (s.retuned x).active = s.reference.active ∧
    (s.retuned x).selected = s.reference.selected ∧ (s.retuned x).state = s.reference.state := by
  cases x with
  | field j =>
    unfold State.retuned RefUnit.retune
    dsimp only
    split <;> exact ⟨rfl, rfl, rfl⟩
  | house => exact ⟨rfl, rfl, rfl⟩
  | crystal => exact ⟨rfl, rfl, rfl⟩

theorem retuned_field (s : State) (j : Line) : s.retuned (.field j) =
    if s.reference.tracked = some j then s.reference
    else if (s.line j).state = .locked then
      { s.reference with tracked := some j, field := .settling, fieldSettle := some 4800 }
    else { s.reference with tracked := some j, field := .absent, fieldSettle := none } := by
  unfold State.retuned RefUnit.retune
  by_cases locked : (s.line j).state = .locked <;> simp [locked, Config.stabilityFrames]

theorem stability_field_iff (r : RefUnit) (j : Line) :
    r.stability (.field j) = .stable ↔ r.tracked = some j ∧ r.field = .stable := by
  by_cases tracked : r.tracked = some j <;> simp [RefUnit.stability, tracked]

theorem bound_some {j k : Line} (active : r.active = .field k) (apart : j ≠ k) : r.bound (.field j) = some k := by
  simp [RefUnit.bound, active, apart]

theorem bound_none (free : ∀ j k, x = .field j → r.active = .field k → j = k) : r.bound x = none := by
  unfold RefUnit.bound
  split
  · next j k active => rw [if_pos (free j k rfl active)]
  · rfl

theorem selectReference_bound {choice : Byte} {k : Line} (named : choice = x.code) (bound : s.reference.bound x = some k) :
    selectReference choice s = (s, { outcome := .state, results := [byte k.val] }) := by
  subst named
  simp only [selectReference, readChoice_code, bound]

theorem selectReference_judged {choice : Byte} (named : choice = x.code) (free : s.reference.bound x = none) :
    selectReference choice s = (s.setReference ((s.retuned x).judge x).1, ((s.retuned x).judge x).2) := by
  subst named
  simp only [selectReference, readChoice_code, free]

end Judge

/-- Settles O52: the binding of an active line, the retune, the judgement. -/
theorem selectReferenceIsJudged : Obligations.SelectReferenceIsJudged := by
  intro s p tag choice x spelled holds named u r tuned stable becomes
  have retuned : u.retuned x = tuned := by
    cases x with
    | field j => exact retuned_field u j
    | house => rfl
    | crystal => rfl
  have isStable : tuned.stability x = .stable ↔ stable := by
    cases x with
    | field j => exact stability_field_iff tuned j
    | house => exact Iff.rfl
    | crystal => exact iff_of_true rfl trivial
  obtain ⟨active, selected, state⟩ : tuned.active = r.active ∧ tuned.selected = r.selected ∧ tuned.state = r.state := by
    rw [← retuned]
    exact retuned_active u x
  have answers : ∀ {a}, selectReference choice u = a →
      exec (.selectReference p choice) s = .next (a.1.reply p tag a.2) :=
    fun acts => takeRequest_does spelled (withAuthority_of_holder holds acts)
  refine ⟨fun j k line at_line apart => ?_, fun free => ?_⟩
  · subst line
    exact answers (selectReference_bound named (bound_some at_line apart))
  · have judged := selectReference_judged (s := u) named (bound_none free)
    rw [retuned] at judged
    refine ⟨fun chosen => ?_, fun other steady => ?_, fun other waits => ?_⟩
    · have chosen' : x = tuned.active := chosen.trans active.symm
      have settled := settleOn_active chosen'
      by_cases still : r.selected = x ∧ r.state = .steady
      · rw [judge_still chosen' (by rwa [selected, state]), settled, setReference_silent] at judged
        rw [if_pos still]
        exact answers judged
      · rw [judge_moved chosen' (by rwa [selected, state]), settled, setReference_reporting] at judged
        rw [if_neg still]
        exact answers judged
    · rw [judge_stable (by rwa [active]) (isStable.mpr steady), setReference_reporting] at judged
      exact answers judged
    · rw [judge_waiting (by rwa [active]) (mt isStable.mp waits), setReference_reporting] at judged
      exact answers judged

/-! ### The events (R156, R157, R161, R162, R163) -/

section Events
variable {s : State} {r : RefUnit} {x : RefSource}

theorem becameStable_switching (selected : r.selected = x) (switching : r.state = .switching) :
    r.becameStable x = RefUnit.reporting { r with active := x, state := .steady, deadline := none } .switched := by
  subst selected
  simp only [RefUnit.becameStable, switching, if_true, RefUnit.settleOn]

theorem becameStable_holdover (selected : r.selected = x) (holdover : r.state = .holdover) :
    r.becameStable x = RefUnit.reporting { r with active := x, state := .steady, deadline := none } .restored := by
  subst selected
  simp only [RefUnit.becameStable, holdover, if_true, RefUnit.settleOn]

theorem becameStable_silent (unmoved : r.selected ≠ x ∨ r.state = .steady) : r.becameStable x = (r, []) := by
  unfold RefUnit.becameStable
  split
  · next selected => simp only [unmoved.resolve_left (not_not.mpr selected)]
  · rfl

theorem fieldSettled_of_tracked {k : Line} (tracked : r.tracked = some k) :
    r.fieldSettled = RefUnit.becameStable { r with field := .stable, fieldSettle := none } (.field k) := by
  simp only [RefUnit.fieldSettled, tracked]

end Events

/-- Settles O53: event by event. -/
theorem referenceEventsMoveTheRecord : Obligations.ReferenceEventsMoveTheRecord := by
  intro s r becomes stableNow present absent gone
  have reports : ∀ {o : Host.Outcome State Fault Refusal} {step : RefStep} {r' : RefUnit} {c : RefCause},
      o = .next (s.setReference step) → step = r'.reporting c → becomes o r' [c.code] := fun does is => by
    rw [is, setReference_reporting] at does
    exact does
  have settles : ∀ {o : Host.Outcome State Fault Refusal} {r' : RefUnit} {x : RefSource},
      o = .next (s.setReference (r'.becameStable x)) → r'.selected = r.selected → r'.state = r.state → stableNow o r' x :=
    fun does selected state => ⟨fun chosen switching => reports (c := .switched) does
        (becameStable_switching (selected.trans chosen) (state.trans switching)),
      fun chosen holdover => reports (c := .restored) does
        (becameStable_holdover (selected.trans chosen) (state.trans holdover)),
      fun unmoved => does.trans (congrArg (fun x => Host.Outcome.next (s.setReference x))
        (becameStable_silent (by rwa [selected, state])))⟩
  refine ⟨fun up away => ?_, fun still => ?_, fun away => ?_, fun here other => ?_, fun here active => ?_,
    fun settling ran => settles (if_pos ⟨settling, due_iff.mpr ran⟩) rfl rfl,
    fun running => if_neg fun on => running (due_iff.mp on.2),
    fun k tracked settling ran => ?_, fun running => if_neg fun on => running (due_iff.mp on.2),
    fun switching ran => reports (c := .timeout) (if_pos ⟨switching, due_iff.mpr ran⟩) rfl,
    fun off => if_neg fun on => off.elim (fun h => h on.1) fun h => h (due_iff.mp on.2)⟩
  · have starts : (if s.nresetLow then present else present.housePresent) =
        { present with house := .settling, houseSettle := some 4800 } := by
      rw [up]
      exact if_pos away
    exact congrArg (fun r' => Host.Outcome.next { s with reference := r' }) starts
  · have stays : (if s.nresetLow then present else present.housePresent) = present := by
      rcases still with low | here
      · rw [low]; rfl
      · split <;> [rfl; exact if_neg here]
    exact congrArg (fun r' => Host.Outcome.next { s with reference := r' }) stays
  · exact congrArg (fun x => Host.Outcome.next (s.setReference x)) (if_pos away)
  · exact congrArg (fun x => Host.Outcome.next (s.setReference x)) ((if_neg here).trans (lost_of_other (r := gone) other))
  · exact reports (c := .lost) rfl ((if_neg here).trans (lost_of_active (r := gone) active))
  · have does : exec .fieldSettleExpiry s = .next (s.setReference r.fieldSettled) := if_pos ⟨settling, due_iff.mpr ran⟩
    rw [fieldSettled_of_tracked tracked] at does
    exact settles does rfl rfl

end Sys2Proof.Machine

/-! SUPPORT. What each command keeps of the configuration: windows, authority, seize rights, trims, groups, profiles and plans, and
O22. -/

namespace Sys2Proof.Machine

/-- What does not speak of the ports changes at a request of the Authority class from the holder alone (R34). -/
theorem authorityRequest_changes {P : State → Prop} {s t : State} {p : Port} {i : Instr} {act : State → State × Answer}
    (ports : ∀ s v, P s → P { s with ports := v }) (h : P s) (done : takeRequest s p i (withAuthority p act) = .next t) :
    P t ∨ s.access.holder = some p := by
  by_cases holds : s.access.holder = some p
  · exact .inr holds
  · refine .inl (takeRequest_keeps (P := fun u => P u ∧ u.access.holder ≠ some p) (fun u v hu => ⟨ports u v hu.1, hu.2⟩)
      (fun u hu => ?_) ⟨h, holds⟩ done).1
    rw [withAuthority, if_neg hu.2]
    exact hu

/-! ### The authority record (R31, R35 to R39) -/

section Access
variable {s t : State} {p : Port} {i : Instr}

theorem claimAuthority_access (p : Port) (s : State) : (claimAuthority p s).1.access =
    { s.access with holder := (claimAuthority p s).1.access.holder } := by
  unfold claimAuthority
  split
  · rfl
  · split <;> rfl

theorem releaseAuthority_access (p : Port) (s : State) : (releaseAuthority p s).1.access =
    { s.access with holder := (releaseAuthority p s).1.access.holder } := by
  unfold releaseAuthority
  split <;> rfl

theorem seizeAuthority_access (p : Port) (s : State) : (seizeAuthority p s).1.access =
    { s.access with holder := (seizeAuthority p s).1.access.holder } := by
  unfold seizeAuthority
  split
  · rw [postAll_access]; rfl
  · rfl

theorem setSeizeRight_access (port switch : Byte) (s : State) : (setSeizeRight port switch s).1.access =
    { s.access with seize := (setSeizeRight port switch s).1.access.seize } := by
  unfold setSeizeRight
  split <;> rfl

theorem setWindow_access (port window enabled base mask priority listenOnly tag : Byte) (s : State) :
    (setWindow port window enabled base mask priority listenOnly tag s).1.access =
      { s.access with windows := (setWindow port window enabled base mask priority listenOnly tag s).1.access.windows } := by
  unfold setWindow
  split <;> rfl

theorem accessReset_eq (a : AccessUnit) (p : Port) : a.portReset p = { a with holder := (a.portReset p).holder } := by
  unfold AccessUnit.portReset
  split <;> rfl

/-- Only SET_WINDOW from the holder changes a window (R31). -/
theorem exec_windows (released : i ≠ .chipReset) (done : exec i s = .next t) : t.access.windows = s.access.windows ∨
    ∃ p a b e f g h i' j, i = .setWindow p a b e f g h i' j ∧ s.access.holder = some p := by
  have ports : ∀ (u : State) v, u.access.windows = s.access.windows →
      ({ u with ports := v } : State).access.windows = s.access.windows := fun _ _ h => h
  cases i with
  | claimAuthority =>
    exact .inl (takeRequest_keeps ports (fun u hu => by rw [claimAuthority_access]; exact hu) rfl done)
  | releaseAuthority =>
    exact .inl (takeRequest_keeps ports (fun u hu => by rw [releaseAuthority_access]; exact hu) rfl done)
  | seizeAuthority =>
    exact .inl (takeRequest_keeps ports (fun u hu => by rw [seizeAuthority_access]; exact hu) rfl done)
  | setSeizeRight =>
    exact .inl (takeRequest_keeps ports (withAuthority_keeps fun u hu => by rw [setSeizeRight_access]; exact hu) rfl done)
  | setWindow =>
    exact (authorityRequest_changes ports rfl done).imp_right fun holds => ⟨_, _, _, _, _, _, _, _, _, rfl, holds⟩
  | prstAssert p =>
    refine .inl ?_
    rcases prstAssert_cases done with ⟨-, same⟩ | ⟨-, fresh⟩
    · rw [same]
    · rw [fresh, (resetPort_kept s p).1, accessReset_eq]
  | chipReset => exact absurd rfl released
  | _ => exact .inl (by rw [(exec_kept done).access rfl])

/-- Only SET_SEIZE_RIGHT from the holder changes a seize right (R38). -/
theorem exec_seize (released : i ≠ .chipReset) (done : exec i s = .next t) : t.access.seize = s.access.seize ∨
    ∃ p a b, i = .setSeizeRight p a b ∧ s.access.holder = some p := by
  have ports : ∀ (u : State) v, u.access.seize = s.access.seize →
      ({ u with ports := v } : State).access.seize = s.access.seize := fun _ _ h => h
  cases i with
  | claimAuthority =>
    exact .inl (takeRequest_keeps ports (fun u hu => by rw [claimAuthority_access]; exact hu) rfl done)
  | releaseAuthority =>
    exact .inl (takeRequest_keeps ports (fun u hu => by rw [releaseAuthority_access]; exact hu) rfl done)
  | seizeAuthority =>
    exact .inl (takeRequest_keeps ports (fun u hu => by rw [seizeAuthority_access]; exact hu) rfl done)
  | setSeizeRight =>
    exact (authorityRequest_changes ports rfl done).imp_right fun holds => ⟨_, _, _, rfl, holds⟩
  | setWindow =>
    exact .inl (takeRequest_keeps ports (withAuthority_keeps fun u hu => by rw [setWindow_access]; exact hu) rfl done)
  | prstAssert p =>
    refine .inl ?_
    rcases prstAssert_cases done with ⟨-, same⟩ | ⟨-, fresh⟩
    · rw [same]
    · rw [fresh, (resetPort_kept s p).1, accessReset_eq]
  | chipReset => exact absurd rfl released
  | _ => exact .inl (by rw [(exec_kept done).access rfl])

/-- What an authority request does to the holder, seen from the state it is taken in. -/
theorem takeRequest_holder {act : State → State × Answer} (done : takeRequest s p i act = .next t) :
    t.access.holder = s.access.holder ∨ t.access.holder = (act (s.endTransaction p)).1.access.holder := by
  rcases takeRequest_cases done with ⟨-, same⟩ | ⟨tag, -, taken⟩
  · exact .inl (by rw [same])
  · exact .inr (by rw [taken]; rfl)

/-- The holder changes by the three authority requests and by a port reset of the holder (R35, R36, R37, R39). -/
theorem exec_holderChanges (released : i ≠ .chipReset) (done : exec i s = .next t) : t.access.holder = s.access.holder ∨
    (∃ p, i = .claimAuthority p ∧ s.access.holder = none ∧ t.access.holder = some p) ∨
    (∃ p, i = .releaseAuthority p ∧ s.access.holder = some p ∧ t.access.holder = none) ∨
    (∃ p, i = .seizeAuthority p ∧ s.access.seize.get p = true ∧ t.access.holder = some p) ∨
    ∃ p, i = .prstAssert p ∧ s.access.holder = some p ∧ t.access.holder = none := by
  have ports : ∀ (u : State) v, u.access.holder = s.access.holder →
      ({ u with ports := v } : State).access.holder = s.access.holder := fun _ _ h => h
  cases i with
  | claimAuthority p =>
    rcases takeRequest_holder done with same | claimed
    · exact .inl same
    · unfold claimAuthority at claimed
      split at claimed
      · next free => exact .inr (.inl ⟨p, rfl, free, claimed⟩)
      · split at claimed <;> exact .inl claimed
  | releaseAuthority p =>
    rcases takeRequest_holder done with same | freed
    · exact .inl same
    · unfold releaseAuthority at freed
      split at freed
      · next own => exact .inr (.inr (.inl ⟨p, rfl, own, freed⟩))
      · exact .inl freed
  | seizeAuthority p =>
    rcases takeRequest_holder done with same | seized
    · exact .inl same
    · unfold seizeAuthority at seized
      split at seized
      · next right =>
        rw [postAll_access] at seized
        exact .inr (.inr (.inr (.inl ⟨p, rfl, right, seized⟩)))
      · exact .inl seized
  | setSeizeRight =>
    exact .inl (takeRequest_keeps ports (withAuthority_keeps fun u hu => by rw [setSeizeRight_access]; exact hu) rfl done)
  | setWindow =>
    exact .inl (takeRequest_keeps ports (withAuthority_keeps fun u hu => by rw [setWindow_access]; exact hu) rfl done)
  | prstAssert p =>
    rcases prstAssert_cases done with ⟨-, same⟩ | ⟨-, fresh⟩
    · exact .inl (by rw [same])
    · rw [fresh, (resetPort_kept s p).1]
      unfold AccessUnit.portReset
      split
      · next own => exact .inr (.inr (.inr (.inr ⟨p, rfl, own, rfl⟩)))
      · exact .inl rfl
  | chipReset => exact absurd rfl released
  | _ => exact .inl (by rw [(exec_kept done).access rfl])

end Access

end Sys2Proof.Machine

/-! SUPPORT. What each command keeps of the trims, groups, profiles and line plans, and O22. -/

namespace Sys2Proof.Machine

/-! ### Trims (R62) -/

section Trims
variable {s t : State} {p : Port} {i : Instr}

theorem routeAdd_trims (p : Port) (dest source level mode : Byte) (s : State) :
    (routeAdd p dest source level mode s).1.route.trims = s.route.trims := by
  unfold routeAdd
  split
  · split
    · rfl
    · unfold routeAddChecked
      dsimp only
      split
      · rfl
      · split
        · split <;> rfl
        · split
          · rfl
          · split <;> rfl
  · rfl

theorem routeLevel_trims (p : Port) (dest source level : Byte) (s : State) :
    (routeLevel p dest source level s).1.route.trims = s.route.trims := by
  unfold routeLevel
  split
  · split
    · rfl
    · split <;> rfl
  · rfl

theorem routeRemove_trims (p : Port) (dest source : Byte) (s : State) :
    (routeRemove p dest source s).1.route.trims = s.route.trims := by
  unfold routeRemove
  split
  · split
    · rfl
    · split <;> rfl
  · rfl

theorem routeClear_trims (p : Port) (dest filter : Byte) (s : State) :
    (routeClear p dest filter s).1.route.trims = s.route.trims := by
  unfold routeClear
  split
  · split <;> rfl
  · rfl

theorem setDest_trims (p : Port) (dest master fade : Byte) (s : State) :
    (setDest p dest master fade s).1.route.trims = s.route.trims := by
  unfold setDest
  split
  · split <;> rfl
  · rfl

theorem portReset_trims (r : RouteStore) (p : Port) : (r.portReset p).trims = r.trims := by
  unfold RouteStore.portReset RouteStore.settleAll
  rfl

/-- Only SET_TRIM from the holder moves a trim's target; a frame moves its gain word alone (R62, R70). -/
theorem exec_trims (released : i ≠ .chipReset) (done : exec i s = .next t) :
    (∀ x, (t.trim x).target = (s.trim x).target) ∨ ∃ p a b, i = .setTrim p a b ∧ s.access.holder = some p := by
  have of_trims : t.route.trims = s.route.trims → ∀ x, (t.trim x).target = (s.trim x).target := fun same x => by
    rw [State.trim, State.trim, same]
  have ports : ∀ (u : State) v, u.route.trims = s.route.trims →
      ({ u with ports := v } : State).route.trims = s.route.trims := fun _ _ h => h
  cases i with
  | routeAdd =>
    exact .inl (of_trims (takeRequest_keeps ports (fun u hu => (routeAdd_trims _ _ _ _ _ u).trans hu) rfl done))
  | routeLevel => exact .inl (of_trims (takeRequest_keeps ports (fun u hu => (routeLevel_trims _ _ _ _ u).trans hu) rfl done))
  | routeRemove => exact .inl (of_trims (takeRequest_keeps ports (fun u hu => (routeRemove_trims _ _ _ u).trans hu) rfl done))
  | routeClear => exact .inl (of_trims (takeRequest_keeps ports (fun u hu => (routeClear_trims _ _ _ u).trans hu) rfl done))
  | setDest => exact .inl (of_trims (takeRequest_keeps ports (fun u hu => (setDest_trims _ _ _ _ u).trans hu) rfl done))
  | setTrim =>
    exact (authorityRequest_changes ports rfl done).imp of_trims fun holds => ⟨_, _, _, rfl, holds⟩
  | prstAssert p =>
    refine .inl (of_trims ?_)
    rcases prstAssert_cases done with ⟨-, same⟩ | ⟨-, fresh⟩
    · rw [same]
    · rw [fresh, resetPort_route, portReset_trims]
  | mixFrameEvent mics programmes =>
    refine .inl fun x => ?_
    rw [frame_done done, frame_trim, advance_target]
  | chipReset => exact absurd rfl released
  | _ => exact .inl (of_trims (by rw [(exec_kept done).route rfl]))

end Trims

/-! ### Groups (R112) -/

section Groups
variable {s t : State} {p : Port} {i : Instr}

theorem setTalk_groups (s : State) (e : Earpiece) (x : TalkStep) : (s.setTalk e x).foldback.groups = s.foldback.groups := by
  rw [setTalk_foldback]
  rfl

theorem talkOn_groups (s : State) (p : Port) (e : Earpiece) (x : Talker) (origin : Option Group) :
    (s.talkOn p e x origin).1.foldback.groups = s.foldback.groups := by
  cases check : s.access.checkWrite p (earDest e) with
  | error a => rw [talkOn_error check]
  | ok w =>
    rw [talkOn_ok check]
    split
    · exact setTalk_groups _ _ _
    · rfl

theorem releaseOn_groups (s : State) (p : Port) (e : Earpiece) : (s.releaseOn p e).1.foldback.groups = s.foldback.groups := by
  unfold State.releaseOn
  split
  · rfl
  · split
    · rfl
    · exact setTalk_groups _ _ _

theorem talkRequest_groups (p : Port) (earpiece talker : Byte) (s : State) :
    (talkRequest p earpiece talker s).1.foldback.groups = s.foldback.groups := by
  unfold talkRequest
  split <;> [exact talkOn_groups _ _ _ _ _; rfl]

theorem talkRelease_groups (p : Port) (earpiece : Byte) (s : State) :
    (talkRelease p earpiece s).1.foldback.groups = s.foldback.groups := by
  unfold talkRelease
  split <;> [exact releaseOn_groups _ _ _; rfl]

theorem talkGroup_groups (p : Port) (group talker : Byte) (s : State) :
    (talkGroup p group talker s).1.foldback.groups = s.foldback.groups := by
  unfold talkGroup
  split
  · exact visit_keeps (P := fun u => u.foldback.groups = s.foldback.groups)
      (fun u e hu => (talkOn_groups u _ _ _ _).trans hu) _ rfl
  · rfl

theorem releaseGroup_groups (p : Port) (group : Byte) (s : State) :
    (releaseGroup p group s).1.foldback.groups = s.foldback.groups := by
  unfold releaseGroup
  split
  · exact visit_keeps (P := fun u => u.foldback.groups = s.foldback.groups)
      (fun u e hu => (releaseOn_groups u _ _).trans hu) _ rfl
  · rfl

theorem setFoldback_groups (p : Port) (earpiece bed nominal duck interrupt lead hold limit : Byte) (s : State) :
    (setFoldback p earpiece bed nominal duck interrupt lead hold limit s).1.foldback.groups = s.foldback.groups := by
  unfold setFoldback
  split
  · split <;> rfl
  · rfl

/-- Only SET_GROUP from the holder changes a group (R112). -/
theorem exec_groups (released : i ≠ .chipReset) (done : exec i s = .next t) :
    t.foldback.groups = s.foldback.groups ∨ ∃ p a b, i = .setGroup p a b ∧ s.access.holder = some p := by
  have ports : ∀ (u : State) v, u.foldback.groups = s.foldback.groups →
      ({ u with ports := v } : State).foldback.groups = s.foldback.groups := fun _ _ h => h
  cases i with
  | talkRequest => exact .inl (takeRequest_keeps ports (fun u hu => (talkRequest_groups _ _ _ u).trans hu) rfl done)
  | talkRelease => exact .inl (takeRequest_keeps ports (fun u hu => (talkRelease_groups _ _ u).trans hu) rfl done)
  | talkGroup => exact .inl (takeRequest_keeps ports (fun u hu => (talkGroup_groups _ _ _ u).trans hu) rfl done)
  | releaseGroup => exact .inl (takeRequest_keeps ports (fun u hu => (releaseGroup_groups _ _ u).trans hu) rfl done)
  | setFoldback => exact .inl (takeRequest_keeps ports (fun u hu => (setFoldback_groups _ _ _ _ _ _ _ _ _ u).trans hu) rfl done)
  | setGroup => exact (authorityRequest_changes ports rfl done).imp_right fun holds => ⟨_, _, _, rfl, holds⟩
  | leadExpiry e =>
    rw [exec_leadExpiry] at done
    split at done <;> obtain rfl := Host.Outcome.next.inj done <;> exact .inl rfl
  | limitExpiry e =>
    rw [exec_limitExpiry] at done
    split at done
    · split at done <;> obtain rfl := Host.Outcome.next.inj done <;> [exact .inl (setTalk_groups _ _ _); exact .inl rfl]
    · obtain rfl := Host.Outcome.next.inj done; exact .inl rfl
  | holdExpiry e =>
    rw [exec_holdExpiry] at done
    split at done <;> obtain rfl := Host.Outcome.next.inj done <;> exact .inl rfl
  | prstAssert p =>
    refine .inl ?_
    rcases prstAssert_cases done with ⟨-, same⟩ | ⟨-, fresh⟩
    · rw [same]
    · obtain ⟨-, groups, -⟩ := resetPort_kept s p
      rw [fresh, groups]
  | mixFrameEvent mics programmes => exact .inl (by rw [frame_done done, frame_foldback, stepped_groups])
  | chipReset => exact absurd rfl released
  | _ => exact .inl (by rw [(exec_kept done).foldback rfl])

end Groups

/-! ### Profiles (R127) -/

section Profiles
variable {s t : State} {p : Port} {i : Instr}

theorem startProbe_profiles (s : State) (e : Earpiece) : (s.startProbe e).ident.profiles = s.ident.profiles := by
  unfold State.startProbe
  dsimp only
  split <;> rfl

theorem completeProbe_profiles (s : State) (e : Earpiece) : (s.completeProbe e).ident.profiles = s.ident.profiles := by
  unfold State.completeProbe
  dsimp only
  rw [postAll_ident]
  split <;> rfl

theorem identify_profiles (p : Port) (earpiece : Byte) (s : State) :
    (identify p earpiece s).1.ident.profiles = s.ident.profiles := by
  unfold identify
  split
  · rfl
  · split
    · rfl
    · split <;> [rfl; exact startProbe_profiles _ _]

/-- Only SET_PROFILE from the holder changes a profile (R128). -/
theorem exec_profiles (released : i ≠ .chipReset) (done : exec i s = .next t) : t.ident.profiles = s.ident.profiles ∨
    ∃ p a b e f g, i = .setProfile p a b e f g ∧ s.access.holder = some p := by
  have ports : ∀ (u : State) v, u.ident.profiles = s.ident.profiles →
      ({ u with ports := v } : State).ident.profiles = s.ident.profiles := fun _ _ h => h
  cases i with
  | identify => exact .inl (takeRequest_keeps ports (fun u hu => (identify_profiles _ _ u).trans hu) rfl done)
  | setProfile => exact (authorityRequest_changes ports rfl done).imp_right fun holds => ⟨_, _, _, _, _, _, rfl, holds⟩
  | settleTimerExpiry e =>
    simp only [exec, execSettleTimerExpiry] at done
    split at done
    · split at done <;> obtain rfl := Host.Outcome.next.inj done <;> [exact .inl rfl; exact .inl (completeProbe_profiles _ _)]
    · obtain rfl := Host.Outcome.next.inj done; exact .inl rfl
  | contactReadingChange => obtain rfl := Host.Outcome.next.inj done; exact .inl rfl
  | debounceExpiry e =>
    simp only [exec, execDebounceExpiry] at done
    split at done <;> obtain rfl := Host.Outcome.next.inj done <;> [exact .inl (startProbe_profiles _ _); exact .inl rfl]
  | nresetRelease =>
    rw [nresetRelease_done done]
    split <;> exact .inl rfl
  | mixFrameEvent mics programmes => exact .inl (by rw [frame_done done, frame_ident, stepped_profiles])
  | chipReset => exact absurd rfl released
  | _ => exact .inl (by rw [(exec_kept done).ident rfl])

end Profiles

/-! ### Line plans (R151) -/

/-- The plan of a line. -/
def LineRec.plan (l : LineRec) : BitVec 2 × Level × Bool × Nat := (l.depth, l.quiet, l.autoWake, l.acquire)

/-- Every line has the plan it has in `s`. -/
def SamePlans (s t : State) : Prop := ∀ k, (t.line k).plan = (s.line k).plan

section Plans
variable {s t u : State} {p : Port} {i : Instr} {k : Line} {l : LineRec}

theorem slip_plan (l : LineRec) : l.slip.plan = l.plan := by rw [slip_kept]; rfl

theorem forceSlip_plan (l : LineRec) : l.forceSlip.plan = l.plan := by
  unfold LineRec.forceSlip
  split <;> [exact slip_plan l; rfl]

theorem readSlip_plan (l : LineRec) : l.readSlip.plan = l.plan := by
  unfold LineRec.readSlip
  split
  · exact forceSlip_plan l
  · split <;> [exact slip_plan l; rfl]

theorem passThrough_plan (l : LineRec) (x : Sample) : (l.passThrough x).plan = l.plan := by
  unfold LineRec.passThrough
  split <;> rfl

theorem lineFrame_plan (l : LineRec) (active : Bool) (out : Int) : ((l.frame active).afterFrame out).plan = l.plan := by
  unfold LineRec.frame
  split <;> rfl

/-! What the requests and events store keeps the plan: each of these records differs from `l` elsewhere. -/

theorem acquireFrom_plan (l : LineRec) : l.acquireFrom.plan = l.plan := rfl

theorem started_plan (l : LineRec) :
    ({ l.flush with quietSlips := 0, forcedSlips := 0 } : LineRec).acquireFrom.plan = l.plan := rfl

theorem takenDown_plan (l : LineRec) (st : LineState) : (l.takenDown st).plan = l.plan := rfl

theorem locking_plan (l : LineRec) (st : LineState) (n : Option Nat) :
    ({ l.flush with state := st, timer := n } : LineRec).plan = l.plan := rfl

theorem loseLock_plan (l : LineRec) : l.loseLock.plan = l.plan := rfl

theorem retimed_plan (l : LineRec) (st : LineState) (n : Option Nat) :
    ({ l with state := st, timer := n } : LineRec).plan = l.plan := rfl

theorem write_plan (l : LineRec) (x : Sample) : (l.write x).plan = l.plan := rfl

theorem centred_plan (l : LineRec) (x : Sample) :
    ({ l.write x with state := .locked, quietRun := 0, replay := [] } : LineRec).plan = l.plan := rfl

theorem read_plan (l : LineRec) (rest : List Sample) (x : Sample) :
    (({ l with buffer := rest } : LineRec).deliver x).plan = l.plan := rfl

theorem noted_plan (l : LineRec) (c : LineCause) : ({ l with lastCause := c } : LineRec).plan = l.plan := rfl

theorem samePlans_putLine (h : SamePlans s u) (plan : l.plan = (u.line k).plan) : SamePlans s (u.putLine k l) := fun j => by
  rw [line_putLine]
  split
  · next same => rw [same, plan, h k]
  · exact h j

theorem samePlans_changeLine (h : SamePlans s u) (plan : l.plan = (u.line k).plan) (c : LineCause) :
    SamePlans s (u.changeLine k l c) := fun j => by
  rw [changeLine_line]
  split
  · next same => rw [same, noted_plan, plan, h k]
  · exact h j

theorem fieldStart_plans (h : SamePlans s u) (line : Byte) : SamePlans s (fieldStart p line u).1 := by
  unfold fieldStart
  split
  · exact h
  · split
    · exact h
    · split <;> [exact samePlans_changeLine h (started_plan _) _; exact h]

theorem fieldStop_plans (h : SamePlans s u) (line : Byte) : SamePlans s (fieldStop p line u).1 := by
  unfold fieldStop
  split
  · exact h
  · split
    · exact h
    · split
      · exact h
      · split <;> [exact h; exact samePlans_changeLine h (takenDown_plan _ _) _]

theorem fieldPark_plans (h : SamePlans s u) (line : Byte) : SamePlans s (fieldPark p line u).1 := by
  unfold fieldPark
  split
  · exact h
  · split
    · exact h
    · split
      · exact h
      · split
        · exact h
        · split <;> [exact h; exact samePlans_changeLine h (takenDown_plan _ _) _]

/-- Only SET_FIELD_PLAN from the holder changes a line's plan (R151). -/
theorem exec_plans (released : i ≠ .chipReset) (done : exec i s = .next t) : SamePlans s t ∨
    ∃ p a b e f g, i = .setFieldPlan p a b e f g ∧ s.access.holder = some p := by
  have ports : ∀ (u : State) v, SamePlans s u → SamePlans s { u with ports := v } := fun _ _ h => h
  have h : SamePlans s s := fun _ => rfl
  cases i with
  | setFieldPlan => exact (authorityRequest_changes ports h done).imp_right fun holds => ⟨_, _, _, _, _, _, rfl, holds⟩
  | fieldStart => exact .inl (takeRequest_keeps ports (fun u hu => fieldStart_plans hu _) h done)
  | fieldStop => exact .inl (takeRequest_keeps ports (fun u hu => fieldStop_plans hu _) h done)
  | fieldPark => exact .inl (takeRequest_keeps ports (fun u hu => fieldPark_plans hu _) h done)
  | receiverLock k =>
    simp only [exec, execReceiverLock] at done
    split at done <;> obtain rfl := Host.Outcome.next.inj done <;> [exact .inl (samePlans_changeLine h (locking_plan _ _ _) _); exact .inl h]
  | receiverLockLoss k =>
    simp only [exec, execReceiverLockLoss] at done
    split at done <;> obtain rfl := Host.Outcome.next.inj done <;> [exact .inl (samePlans_changeLine h (loseLock_plan _) _); exact .inl h]
  | stallExpiry k =>
    simp only [exec, execStallExpiry] at done
    split at done <;> obtain rfl := Host.Outcome.next.inj done <;> [exact .inl (samePlans_changeLine h (loseLock_plan _) _); exact .inl h]
  | acquireExpiry k =>
    simp only [exec, execAcquireExpiry] at done
    split at done <;> obtain rfl := Host.Outcome.next.inj done <;> [exact .inl (samePlans_changeLine h (retimed_plan _ _ _) _); exact .inl h]
  | retryExpiry k =>
    simp only [exec, execRetryExpiry] at done
    split at done <;> obtain rfl := Host.Outcome.next.inj done <;> [exact .inl (samePlans_changeLine h (acquireFrom_plan _) _); exact .inl h]
  | fieldCall k =>
    simp only [exec, execFieldCall] at done
    split at done <;> obtain rfl := Host.Outcome.next.inj done
    · have posted : ∀ xs, SamePlans s (s.postAll xs) := fun xs j => by rw [postAll_line]
      split
      · exact .inl (samePlans_changeLine (posted _) (by rw [postAll_line]; exact acquireFrom_plan _) _)
      · exact .inl (posted _)
    · exact .inl h
  | fieldWrite k x =>
    simp only [exec, execFieldWrite] at done
    split at done
    · obtain rfl := Host.Outcome.next.inj done; exact .inl h
    · split at done
      · split at done <;> obtain rfl := Host.Outcome.next.inj done <;>
          [exact .inl (samePlans_changeLine h (centred_plan _ _) _); exact .inl (samePlans_putLine h (write_plan _ _))]
      · obtain rfl := Host.Outcome.next.inj done
        exact .inl (samePlans_putLine h ((forceSlip_plan _).trans (write_plan _ _)))
      · obtain rfl := Host.Outcome.next.inj done; exact .inl h
  | fieldRead k =>
    simp only [exec, execFieldRead] at done
    split at done
    · obtain rfl := Host.Outcome.next.inj done; exact .inl h
    · split at done <;> obtain rfl := Host.Outcome.next.inj done <;>
        [exact .inl (samePlans_putLine h ((readSlip_plan _).trans (read_plan _ _ _))); exact .inl h]
  | activeReferenceSample k x =>
    simp only [exec, execActiveReferenceSample] at done
    split at done <;> obtain rfl := Host.Outcome.next.inj done <;>
      [exact .inl (samePlans_putLine h (passThrough_plan _ _)); exact .inl h]
  | mixFrameEvent mics programmes =>
    refine .inl fun k => ?_
    rw [frame_done done, frame_line]
    exact lineFrame_plan _ _ _
  | chipReset => exact absurd rfl released
  | _ => exact .inl fun k => by rw [State.line, (exec_kept done).field rfl]; rfl

end Plans

/-- Settles O22: record by record. -/
theorem configurationNeedsTheHolder : Obligations.ConfigurationNeedsTheHolder := by
  intro c s t done released
  refine ⟨exec_windows released done, exec_holderChanges released done, exec_seize released done, exec_trims released done,
    exec_groups released done, exec_profiles released done, (exec_plans released done).imp_left fun same k => ?_⟩
  have plan : (t.line k).plan = (s.line k).plan := same k
  simpa only [LineRec.plan, Prod.mk.injEq] using plan

end Sys2Proof.Machine
